-- ==== Sys2Proof/Word.lean ====
section
/-!
DEFINITION. The word and field types of the block: 32-bit operand, result and command words (R4, R7, R41)
and the 5-bit fields `F`, `B` and `sh` of a command word (R55, R63).
-/

namespace Sys2Proof

/-- A raw 32-bit word: bit 31 the sign bit, bit 0 the least significant (R7, R41). -/
abbrev Word := BitVec 32

/-- A 5-bit unsigned field of the command word: `F`, `B` or `sh` (R55, R63). -/
abbrev Bits5 := BitVec 5

end Sys2Proof
end

