-- ==== Sys2Proof/Syntax.lean ====
section
/-!
DEFINITION. The commands of the block: one constructor per row of R58 (`spec/opcode_table.json`), with the fields its
format uses (R57). The operand words `a` and `b` are no part of the command word (R55): they stand in the queue entry.
-/

namespace Sys2Proof

/-- The 25 commands (R58). A field may hold any 5-bit value: which ones are legal is R59 (`Instr.wellFormed`). -/
inductive Instr where
  -- format S, multiplier (R71 to R73)
  | mulH (F : Bits5)
  | mulM (F : Bits5)
  | mulL (F : Bits5)
  -- format S, divider (R81 to R83)
  | divH (F : Bits5)
  | divM (F : Bits5)
  | divL (F : Bits5)
  -- format C, destination count F first, source count B second (R91)
  | cvt (F B : Bits5)
  -- format T, rescale unit (R93, R94)
  | fromInt (F : Bits5)
  | toInt (F : Bits5)
  -- format N and H, scale-invariant arithmetic (R101 to R105)
  | add
  | sub
  | neg
  | shl (sh : Bits5)
  | shr (sh : Bits5)
  -- utility operations, formats N and T (R106 to R110)
  | abs
  | sign (F : Bits5)
  | floor (F : Bits5)
  | ceil (F : Bits5)
  | round (F : Bits5)
  -- format N, comparisons (R111 to R116)
  | ceq
  | cne
  | clt
  | cle
  | cgt
  | cge
deriving DecidableEq, Repr

/-- `MUL.Q16H` (R66). -/
abbrev Instr.mulQ16H : Instr := .mulH 16

/-- `DIV.Q16H` (R66). -/
abbrev Instr.divQ16H : Instr := .divH 16

/-- `MUL.Q8L` (R66). -/
abbrev Instr.mulQ8L : Instr := .mulL 8

/-- `DIV.Q8L` (R66). -/
abbrev Instr.divQ8L : Instr := .divL 8

end Sys2Proof
end

