-- ==== Sys2Proof/WellFormed.lean ====
section
/-!
DEFINITION. Which commands are legal: the field checks of R59 over the range of R6.
-/

namespace Sys2Proof

/-- A legal fractional-bit count: `1 <= F <= 30` (R6). -/
def legalCount (F : Bits5) : Bool := 1 ≤ F.toNat && F.toNat ≤ 30

/-- The field checks of R59: formats S and T check `F`, format C checks `F` and `B`, formats H and N check nothing. -/
def Instr.wellFormed : Instr → Bool
  | .mulH F | .mulM F | .mulL F => legalCount F
  | .divH F | .divM F | .divL F => legalCount F
  | .cvt F B => legalCount F && legalCount B
  | .fromInt F | .toInt F => legalCount F
  | .sign F | .floor F | .ceil F | .round F => legalCount F
  | .shl _ | .shr _ => true
  | .add | .sub | .neg | .abs => true
  | .ceq | .cne | .clt | .cle | .cgt | .cge => true

end Sys2Proof
end

