-- ==== Sys2Proof/Decode.lean ====
section
/-!
DEFINITION. Decoding of command words by the opcode map of R58 (mask and match of each row), by name of cause where no row
matches (R132 a to d), and the encoder written from the bit pattern of R57. The range check of R59 (R132 e) comes after a row
has matched, so it is not here: `Instr.wellFormed` states it and the meanings apply it (entry 12).
-/

namespace Sys2Proof

/-- The five formats of R57. -/
inductive Format where
  | S
  | C
  | T
  | H
  | N
deriving DecidableEq, Repr

/-- The mask of each format (R57). -/
def Format.mask : Format → Word
  | .S => 0xFFFFE0FF
  | .C => 0xFFE0E0FF
  | .T => 0xFFFFE0FF
  | .H => 0xFFE0FFFF
  | .N => 0xFFFFFFFF

/-- One row of the opcode map (R58): its match value, its format, and the command it selects, from `word[12:8]`
and `word[20:16]`. -/
structure Row where
  matchBits : Word
  format : Format
  build : Bits5 → Bits5 → Instr

/-- A word selects a row when `(word AND mask) = match` (R58). -/
def Row.selects (r : Row) (w : Word) : Bool := w &&& r.format.mask == r.matchBits

/-- R58, the rows of the multiplier and the divider. -/
def multiplyDivideRows : List Row :=
  [⟨0x00000001, .S, fun F _ => .mulH F⟩,
   ⟨0x00000021, .S, fun F _ => .mulM F⟩,
   ⟨0x00000041, .S, fun F _ => .mulL F⟩,
   ⟨0x00000002, .S, fun F _ => .divH F⟩,
   ⟨0x00000022, .S, fun F _ => .divM F⟩,
   ⟨0x00000042, .S, fun F _ => .divL F⟩]

/-- R58, the rows of the rescale unit. -/
def rescaleRows : List Row :=
  [⟨0x00000003, .C, fun F B => .cvt F B⟩,
   ⟨0x00000004, .T, fun F _ => .fromInt F⟩,
   ⟨0x00000005, .T, fun F _ => .toInt F⟩]

/-- R58, the rows of the auxiliary unit but for the comparisons. -/
def auxiliaryRows : List Row :=
  [⟨0x00000008, .N, fun _ _ => .add⟩,
   ⟨0x00000009, .N, fun _ _ => .sub⟩,
   ⟨0x0000000A, .N, fun _ _ => .neg⟩,
   ⟨0x0000000B, .H, fun _ sh => .shl sh⟩,
   ⟨0x0000000C, .H, fun _ sh => .shr sh⟩,
   ⟨0x00000010, .N, fun _ _ => .abs⟩,
   ⟨0x00000011, .T, fun F _ => .sign F⟩,
   ⟨0x00000012, .T, fun F _ => .floor F⟩,
   ⟨0x00000013, .T, fun F _ => .ceil F⟩,
   ⟨0x00000014, .T, fun F _ => .round F⟩]

/-- R58, the rows of the comparisons. -/
def comparisonRows : List Row :=
  [⟨0x00000018, .N, fun _ _ => .ceq⟩,
   ⟨0x00000019, .N, fun _ _ => .cne⟩,
   ⟨0x0000001A, .N, fun _ _ => .clt⟩,
   ⟨0x0000001B, .N, fun _ _ => .cle⟩,
   ⟨0x0000001C, .N, fun _ _ => .cgt⟩,
   ⟨0x0000001D, .N, fun _ _ => .cge⟩]

/-- The 25 rows of R58. -/
def opcodeTable : List Row := multiplyDivideRows ++ rescaleRows ++ auxiliaryRows ++ comparisonRows

/-- `word[4:0]` (R55). -/
def fieldOp (w : Word) : Bits5 := w.extractLsb' 0 5

/-- `word[6:5]` (R55, R56). -/
def fieldStrat (w : Word) : BitVec 2 := w.extractLsb' 5 2

/-- `word[12:8]` (R55). -/
def fieldF (w : Word) : Bits5 := w.extractLsb' 8 5

/-- `word[20:16]`, the field `B` of `CVT` and `sh` of `SHL` and `SHR` (R55). -/
def fieldB (w : Word) : Bits5 := w.extractLsb' 16 5

/-- Bits `[7]`, `[15:13]` and `[31:21]`, which must be zero (R55). -/
def mustBeZeroBits (w : Word) : Word := w &&& 0xFFE0E080

/-- Why no row selects a word: causes (a) to (d) of R132. -/
inductive Reject where
  /-- (a): `word[4:0]` selects no command. -/
  | noSuchOp
  /-- (b): `strat = 0b11` in `MUL` or `DIV`, or a nonzero `strat` elsewhere. -/
  | badStrategy
  /-- (c): a must-be-zero bit is 1. -/
  | mustBeZero
  /-- (d): a field the format does not use is nonzero. -/
  | unusedField
deriving DecidableEq, Repr

/-- The cause of R132 that applies to a word no row selects, the first in the order (a) to (d). -/
def rejectCause (w : Word) : Reject :=
  if opcodeTable.all (fun r => fieldOp r.matchBits != fieldOp w) then .noSuchOp
  else if opcodeTable.all (fun r => fieldOp r.matchBits != fieldOp w || fieldStrat r.matchBits != fieldStrat w) then
    .badStrategy
  else if mustBeZeroBits w != 0 then .mustBeZero
  else .unusedField

/-- Decoding, total on every 32-bit word (R60 steps 1 and 2 before the check of R59): the row that matches, its fields read
by R55. The operands take no part. -/
def decode (w : Word) : Except Reject Instr :=
  match opcodeTable.find? (fun r => r.selects w) with
  | some r => .ok (r.build (fieldF w) (fieldB w))
  | none => .error (rejectCause w)

/-- A word is legal when it decodes and its fields pass R59 (R60). -/
def legalWord (w : Word) : Bool :=
  match decode w with
  | .ok i => i.wellFormed
  | .error _ => false

/-- The layout of R55 and R57, most significant bits first. -/
def packWord (op : Bits5) (strat : BitVec 2) (F B : Bits5) : Word :=
  0#11 ++ B ++ 0#3 ++ F ++ 0#1 ++ strat ++ op

/-- The command word of a command (R55 to R58, R64). -/
def encode : Instr → Word
  | .mulH F => packWord 0x01 0b00 F 0
  | .mulM F => packWord 0x01 0b01 F 0
  | .mulL F => packWord 0x01 0b10 F 0
  | .divH F => packWord 0x02 0b00 F 0
  | .divM F => packWord 0x02 0b01 F 0
  | .divL F => packWord 0x02 0b10 F 0
  | .cvt F B => packWord 0x03 0b00 F B
  | .fromInt F => packWord 0x04 0b00 F 0
  | .toInt F => packWord 0x05 0b00 F 0
  | .add => packWord 0x08 0b00 0 0
  | .sub => packWord 0x09 0b00 0 0
  | .neg => packWord 0x0A 0b00 0 0
  | .shl sh => packWord 0x0B 0b00 0 sh
  | .shr sh => packWord 0x0C 0b00 0 sh
  | .abs => packWord 0x10 0b00 0 0
  | .sign F => packWord 0x11 0b00 F 0
  | .floor F => packWord 0x12 0b00 F 0
  | .ceil F => packWord 0x13 0b00 F 0
  | .round F => packWord 0x14 0b00 F 0
  | .ceq => packWord 0x18 0b00 0 0
  | .cne => packWord 0x19 0b00 0 0
  | .clt => packWord 0x1A 0b00 0 0
  | .cle => packWord 0x1B 0b00 0 0
  | .cgt => packWord 0x1C 0b00 0 0
  | .cge => packWord 0x1D 0b00 0 0

/-- What the decoder reads from a command whose bits are `w`, the first `nbits` of them kept: the command word is bits 31 to 0,
and the operand words above it take no part in decoding (R60). -/
def decodeTableWord (nbits w : Nat) : Option Instr := (decode (BitVec.ofNat 32 (w % 2 ^ nbits))).toOption

end Sys2Proof
end

