-- ==== Sys2Proof/Config.lean ====
section
/-!
DEFINITION. What an implementation of the block fixes and what the spec leaves free: the open parameters of R5 and
the values the spec calls unspecified. Each is an opaque constant, so that a statement about it holds for every value.
-/

namespace Sys2Proof

/-- The five parts of the block (R2). An illegal word is answered by the dispatcher itself. -/
inductive ExecUnit where
  | dispatcher
  | multiplier
  | divider
  | rescale
  | auxiliary
deriving DecidableEq, Repr

/-- Byte orders a wrapper outside the block may use (R41). -/
inductive ByteOrder where
  | little
  | big
deriving DecidableEq, Repr, Inhabited

/-- `DEPTH - 1`: OPEN in R5, so no value is given here. DESIGN CHOICE (entry 8): the parameter is a constant of Config. -/
opaque Config.depthMinusOne : Nat

/-- `DEPTH`, the most commands the block holds between acceptance and response: a positive integer (R5, R25). -/
def Config.depth : Nat := Config.depthMinusOne + 1

/-- Edges beyond the first that the block lets pass before it presents the response of a command that has become
the head of `Q`, by unit: `LAT_MUL`, `LAT_DIV`, `LAT_CVT`, `LAT_AUX` of R5, OPEN. Free at every draw. DESIGN CHOICE (entry 7). -/
opaque Config.latency : ExecUnit → Nat → Nat

/-- Whether the block would like to keep `cmd_ready` low at this draw although `Q` has room (R29 permits it). Entry 6. -/
opaque Config.holdsBack : Nat → Bool

/-- How many cycles at most it does so while the host asks, before it accepts: finite, "but not for ever" (R29). Entry 6. -/
opaque Config.holdLimit : Nat → Nat

/-- The result word of a faulting response: unspecified, and free anew at every fault (R130, U6). Entry 4. -/
opaque Config.faultResult : Nat → Word

/-- `rsp_result` while `rsp_valid = 0`: unspecified (R32, U15). Entry 5. -/
opaque Config.idleResult : Nat → Word

/-- `rsp_status` while `rsp_valid = 0`: unspecified (R32, U15). Entry 5. -/
opaque Config.idleStatus : Nat → BitVec 2

/-- `PLATFORM_BYTE_ORDER`: OPEN, and by R5 and R41 read by no rule, so nothing here reads it. Entry 9. -/
opaque Config.platformByteOrder : ByteOrder

end Sys2Proof
end

