-- ==== Sys2Proof/Machine/State.lean ====
section
/-!
DEFINITION. The state of the block: the in-flight queue `Q` (R25), its output ports (R26, R32), the input pins the host drives
at the coming clock edges, and the model's own counters that free choices are drawn from. Plain data, no function.
The block has no registers, no program counter, no flags, no control registers and no memory (R20 to R24, R40), so none is here.
-/

namespace Sys2Proof.Machine

/-- A command: the three words sampled together at acceptance (R27). -/
structure Command where
  word : Word
  a : Word
  b : Word
deriving DecidableEq, Repr

/-- The input pins at one rising edge of the clock (R26). `command` is `cmd_word`, `cmd_a` and `cmd_b`. -/
structure Pins where
  rst : Bool
  cmdValid : Bool
  command : Command
  rspReady : Bool
deriving DecidableEq, Repr

/-- A response: the result word and the 2-bit status (R28). -/
structure Response where
  result : Word
  status : BitVec 2
deriving DecidableEq, Repr

/-- The status codes the block produces (R28). `0b11` is reserved and has no name here. -/
inductive Status where
  | okay
  | divZero
  | illegal
deriving DecidableEq, Repr

/-- The two synchronous faults of the block (R130). Taking one is a next state, not a stop (R135). -/
inductive BlockFault where
  | divideByZero
  | illegalCommand
deriving DecidableEq, Repr

/-- What a command rule ends in: `rsp.result <- v`, or `raise` a fault, whose result word has no value (R31). -/
inductive Reply where
  | value (v : Word)
  | raises (f : BlockFault)
deriving DecidableEq, Repr

/-- Why the model stops. -/
inductive Fault where
  /-- Raised by a meaning applied to a state whose queue is empty: there is no command to answer, so the `Deliver` of R31 is
  not enabled. `step` never raises it, since it runs a meaning only for the head of a nonempty queue. Safe. -/
  | noCommandInFlight
deriving DecidableEq, Repr

/-- Why the model refuses. -/
inductive Refusal where
  /-- Raised by an arm of `exec` whose command has no meaning yet. Safe. No arm raises it. -/
  | notModelled (mnemonic : String)
deriving DecidableEq, Repr

/-- The state of the block, its output ports, and the pins the host will drive.

The last four fields and `host` are the model's own (entries 2, 6, 7, 10): they say which of the behaviours the spec
leaves free happens. -/
structure State where
  /-- `Q`, oldest first (R25). -/
  queue : List Command
  /-- Output `cmd_ready` (R26, R29). -/
  cmdReady : Bool
  /-- Output `rsp_valid` (R26, R30). -/
  rspValid : Bool
  /-- Output `rsp_result` (R26, R28). -/
  rspResult : Word
  /-- Output `rsp_status` (R26, R28). -/
  rspStatus : BitVec 2
  /-- The input pins at the coming rising edges, the next one first. -/
  host : List Pins
  /-- Edges still to pass before the response of the head is presented. -/
  rspWait : Nat
  /-- Cycles `cmd_ready` was held low with room in `Q` while the host asked, since the last acceptance or reset. -/
  held : Nat
  /-- The index of the limit on `held` now in force. -/
  epoch : Nat
  /-- The counter that free values are drawn from. -/
  draws : Nat
deriving DecidableEq, Repr

/-- The block right after reset (R32, R150): `Q` empty, `rsp_valid = 0`, `cmd_ready = 0`. DESIGN CHOICE: `rsp_result` and
`rsp_status`, unspecified while `rsp_valid = 0`, are 0 (entry 5); no pins are listed (entry 2); the model's counters are 0 (entry 10). -/
def State.reset : State where
  queue := []
  cmdReady := false
  rspValid := false
  rspResult := 0
  rspStatus := 0
  host := []
  rspWait := 0
  held := 0
  epoch := 0
  draws := 0

end Sys2Proof.Machine
end

