-- ==== Sys2Proof/Machine/Flags.lean ====
section
/-!
DEFINITION. The block has no flags (R22). What other machines put into flags stands in the response: the truth value of a
comparison is its result word (R119), and the outcome of a command is the status code of its response (R28, R130).
-/

namespace Sys2Proof.Machine

/-- The result word of a comparison: `0x00000001` true, `0x00000000` false (R119, decision D23). -/
def truthWord (b : Bool) : Word := if b then 1 else 0

/-- The 2-bit code of each status (R28). -/
def Status.code : Status → BitVec 2
  | .okay => 0b00
  | .divZero => 0b01
  | .illegal => 0b10

/-- The status that reports each fault (R130). -/
def BlockFault.status : BlockFault → Status
  | .divideByZero => .divZero
  | .illegalCommand => .illegal

end Sys2Proof.Machine
end

