-- ==== Sys2Proof/Machine/Operands.lean ====
section
/-!
DEFINITION. The arithmetic primitives of the spec's notation (`00_scope.md` section 5), over the mathematical integers, and
the constants derived from `F` (R8, R63).
-/

namespace Sys2Proof.Machine

/-- `s32(w)`: the word read as a two's-complement integer (R7). -/
def s32 (w : Word) : Int := w.toInt

/-- `u32(w)`: the word read as an unsigned integer. -/
def u32 (w : Word) : Nat := w.toNat

/-- `wrap32(z)`: the word whose unsigned reading is `z mod 2^32`, for any integer `z` (R9). -/
def wrap32 (z : Int) : Word := BitVec.ofInt 32 z

/-- `2^n` as an integer. -/
def pow2 (n : Nat) : Int := ((2 ^ n : Nat) : Int)

/-- `sra(z, n)`: `floor(z / 2^n)`, the arithmetic right shift. -/
def sra (z : Int) (n : Nat) : Int := z.fdiv (pow2 n)

/-- `srl32(w, n)` on the unsigned reading of a word: `floor(w / 2^n)`, the logical right shift. -/
def srl (w n : Nat) : Nat := w / 2 ^ n

/-- `tdiv(x, y)`: integer division truncating toward zero (decision D8). -/
def tdiv (x y : Int) : Int := x.tdiv y

/-- `trem(x, y)`: `x - y * tdiv(x, y)`, zero or the sign of `x` (decision D8). -/
def trem (x y : Int) : Int := x - y * tdiv x y

/-- Bit 31 of a word, its sign bit (R7, R8). -/
def signBit (w : Word) : Bool := w.getLsbD 31

/-- `mag32(w)`: the magnitude as an unsigned integer, 0 to 2^31, `mag32(0x80000000) = 2^31` (decision D9). -/
def mag32 (w : Word) : Nat := if signBit w then 2 ^ 32 - u32 w else u32 w

/-- `ONE = 2^F` (R8). -/
def oneRaw (F : Nat) : Nat := 2 ^ F

/-- `ROUND = 2^(F-1)` (R8). -/
def roundRaw (F : Nat) : Nat := 2 ^ (F - 1)

/-- `FRACTION_MASK = 2^F - 1` (R8). -/
def fractionMask (F : Nat) : Nat := 2 ^ F - 1

/-- The range check of R6 and R59, as the command rules apply it. -/
def countInRange (F : Bits5) : Bool := 1 ≤ F.toNat && F.toNat ≤ 30

/-- "Reapply the sign": the word itself, or its 32-bit negation (R72, R82). -/
def reapplySign (negative : Bool) (m : Word) : Word := if negative then wrap32 (-(u32 m : Int)) else m

end Sys2Proof.Machine
end

