-- ==== Sys2Proof/Machine/Ops.lean ====
section
/-!
DEFINITION. The named operations over the state: the input pins, acceptance, delivery and reset at a rising edge (R29, R30, R150),
finding the command to answer, answering it, and taking a fault (R135).
-/

namespace Sys2Proof.Machine

/-! ### The host's pins -/

/-- All inputs low: what the host drives where the list of pins says nothing. DESIGN CHOICE (entry 2). -/
def Pins.idle : Pins := ⟨false, false, ⟨0, 0, 0⟩, false⟩

/-- The input pins at the coming edge (R26). -/
def State.pins (s : State) : Pins := s.host.headD Pins.idle

/-- A command is accepted at this edge: `rst = 0`, `cmd_valid = 1`, `cmd_ready = 1` (R29). -/
def State.accepts (s : State) : Bool := !s.pins.rst && s.pins.cmdValid && s.cmdReady

/-- The response presented is delivered at this edge: `rst = 0`, `rsp_valid = 1`, `rsp_ready = 1` (R30). -/
def State.delivers (s : State) : Bool := !s.pins.rst && s.rspValid && s.pins.rspReady

/-- The response on the output ports, which means something only while `rsp_valid = 1` (R28, R30). -/
def State.response (s : State) : Response := ⟨s.rspResult, s.rspStatus⟩

/-! ### One rising edge without reset -/

/-- `Q` less a delivered head (R30). -/
def State.undelivered (s : State) : List Command := if s.delivers then s.queue.tail else s.queue

/-- `Q` after the edge: the accepted command appended behind (R29). -/
def State.queueAfter (s : State) : List Command :=
  if s.accepts then s.undelivered ++ [s.pins.command] else s.undelivered

/-- The unit that executes a command (R2). -/
def execUnitOf : Instr → ExecUnit
  | .mulH _ | .mulM _ | .mulL _ => .multiplier
  | .divH _ | .divM _ | .divL _ => .divider
  | .cvt _ _ | .fromInt _ | .toInt _ => .rescale
  | .add | .sub | .neg | .shl _ | .shr _ => .auxiliary
  | .abs | .sign _ | .floor _ | .ceil _ | .round _ => .auxiliary
  | .ceq | .cne | .clt | .cle | .cgt | .cge => .auxiliary

/-- The unit that answers a command word: the dispatcher where the word does not decode (R2). -/
def wordUnit (w : Word) : ExecUnit :=
  match decode w with
  | .ok i => execUnitOf i
  | .error _ => .dispatcher

/-- The head of `Q` after the edge was not its head before. -/
def State.headIsNew (s : State) : Bool := s.delivers || s.queue.isEmpty

/-- Edges still to pass before the head is answered: a free finite number for a new head, one fewer at each edge for an old one
(R30 "eventually", R157). -/
def State.waitAfter (s : State) : Nat :=
  match s.queueAfter with
  | [] => 0
  | c :: _ => if s.headIsNew then Config.latency (wordUnit c.word) s.draws else s.rspWait - 1

/-- The index of the limit in force after the edge: a new one after each acceptance. -/
def State.epochAfter (s : State) : Nat := if s.accepts then s.epoch + 1 else s.epoch

/-- Cycles held back, counted anew after each acceptance. -/
def State.heldBefore (s : State) : Nat := if s.accepts then 0 else s.held

/-- The queue can take one more command (R29). -/
def State.hasRoom (s : State) : Bool := s.queueAfter.length < Config.depth

/-- The block holds `cmd_ready` low although `Q` has room: free, within the limit in force (R29 "at other times, but not
for ever"). -/
def State.holdsBack (s : State) : Bool :=
  s.hasRoom && Config.holdsBack s.draws && decide (s.heldBefore < Config.holdLimit s.epochAfter)

/-- A rising edge with `rst = 0` (R29, R30): delivery, then acceptance, then the outputs of the next cycle but for the response
that the block may now present. A presented response that is not taken stays as it is. -/
def State.runEdge (s : State) : State where
  queue := s.queueAfter
  cmdReady := s.hasRoom && !s.holdsBack
  rspValid := s.rspValid && !s.delivers
  rspResult := if s.rspValid && !s.delivers then s.rspResult else Config.idleResult s.draws
  rspStatus := if s.rspValid && !s.delivers then s.rspStatus else Config.idleStatus s.draws
  host := s.host.tail
  rspWait := s.waitAfter
  held := if s.holdsBack && s.pins.cmdValid then s.heldBefore + 1 else s.heldBefore
  epoch := s.epochAfter
  draws := s.draws + 1

/-! ### Reset -/

/-- A rising edge with `rst = 1` (R32, R150, R151): `Q` is emptied, `rsp_valid` and `cmd_ready` become 0, nothing is accepted or
delivered, and the commands in flight are never answered. -/
def State.resetEdge (s : State) : State where
  queue := []
  cmdReady := false
  rspValid := false
  rspResult := Config.idleResult s.draws
  rspStatus := Config.idleStatus s.draws
  host := s.host.tail
  rspWait := 0
  held := 0
  epoch := s.epoch + 1
  draws := s.draws + 1

/-- A rising edge of `clk`, before the block presents a new response (R26). -/
def State.edge (s : State) : State := if s.pins.rst then s.resetEdge else s.runEdge

/-! ### Answering the head of the queue -/

/-- The command to answer now: the head of `Q`, when no response is being presented and the free delay is over (R30). -/
def State.due (s : State) : Option Command :=
  if s.rspValid || s.rspWait != 0 then none else s.queue.head?

/-- Present a result with status `OK`: `rsp.result <- v` (R28, R30). -/
def State.present (s : State) (v : Word) : State :=
  { s with rspValid := true, rspResult := v, rspStatus := Status.okay.code }

/-- TAKING A FAULT (R130, R135): the response carries the fault's status, and its result is unspecified, a free value. Nothing
is saved, no mode changes, control goes nowhere and the block goes on. There is no return from a fault, since entry changed
nothing (R136). -/
def State.takeFault (s : State) (f : BlockFault) : State :=
  { s with
    rspValid := true
    rspResult := Config.faultResult s.draws
    rspStatus := f.status.code
    draws := s.draws + 1 }

/-- Present what a command rule ended in (R31 steps 2 and 3). -/
def State.respond (s : State) : Reply → State
  | .value v => s.present v
  | .raises f => s.takeFault f

/-- Answer the head of `Q`, whose operand words the rule reads (R27, R30): the queue keeps it until the response is delivered. -/
def State.answer (s : State) (rule : Word → Word → Reply) : Host.Outcome State Fault Refusal :=
  match s.queue with
  | [] => .fault .noCommandInFlight
  | c :: _ => .next (s.respond (rule c.a c.b))

/-- The check of R59 on one count, made before anything else of the rule (R133). -/
def checkCount (F : Bits5) (r : Reply) : Reply := if countInRange F then r else .raises .illegalCommand

/-- The test of R84 on the raw divisor word, made after decode. -/
def checkDivisor (b : Word) (r : Reply) : Reply := if b = 0 then .raises .divideByZero else r

/-! ### Placing a command at the fetch -/

/-- The state with one command at the head of `Q`, due at the next edge: as if the host had had it accepted and the block had
come to it (entry 14). -/
def State.withHead (s : State) (c : Command) : State :=
  { s with queue := c :: s.queue.tail, rspValid := false, rspWait := 0, host := [] }

end Sys2Proof.Machine
end

