-- ==== Sys2Proof/Machine/Rescale.lean ====
section
/-!
DEFINITION. The rescale unit: CVT, FROMINT, TOINT (R91, R93, R94).
-/

namespace Sys2Proof.Machine

/-- R91: from `B` fraction bits to `F`: a left shift that wraps, or an arithmetic right shift that floors. -/
def rescale (F B : Nat) (a : Word) : Word :=
  if B < F then wrap32 (s32 a * pow2 (F - B)) else wrap32 (sra (s32 a) (B - F))

/-- R93: `s32(a) * 2^F`. -/
def fromInteger (F : Nat) (a : Word) : Word := wrap32 (s32 a * pow2 F)

/-- R94: `floor(s32(a) / 2^F)`. -/
def toInteger (F : Nat) (a : Word) : Word := wrap32 (sra (s32 a) F)

/-- `CVT q<F>, q<B>, a` (R91). -/
def execCvt (F B : Bits5) (s : State) : Host.Outcome State Fault Refusal :=
  s.answer fun a _ => checkCount F (checkCount B (.value (rescale F.toNat B.toNat a)))

/-- `FROMINT q<F>, a` (R93). -/
def execFromInt (F : Bits5) (s : State) : Host.Outcome State Fault Refusal :=
  s.answer fun a _ => checkCount F (.value (fromInteger F.toNat a))

/-- `TOINT q<F>, a` (R94). -/
def execToInt (F : Bits5) (s : State) : Host.Outcome State Fault Refusal :=
  s.answer fun a _ => checkCount F (.value (toInteger F.toNat a))

end Sys2Proof.Machine
end

