-- ==== Sys2Proof/Machine/Auxiliary.lean ====
section
/-!
DEFINITION. The auxiliary unit: ADD, SUB, NEG, SHL, SHR, ABS, SIGN, FLOOR, CEIL, ROUND and the six comparisons (R101 to R116, R119).
-/

namespace Sys2Proof.Machine

/-- R103: the 32-bit negation. -/
def negate (a : Word) : Word := wrap32 (-(s32 a))

/-- R106: negate where the sign bit is set. -/
def absolute (a : Word) : Word := if signBit a then negate a else a

/-- R107: `-ONE` where the sign bit is set, else `+ONE`, also for zero. -/
def signWord (F : Nat) (a : Word) : Word := if signBit a then wrap32 (-(oneRaw F : Int)) else wrap32 (oneRaw F)

/-- R108: floor to an integer, then reconstruct. -/
def floorWord (F : Nat) (a : Word) : Word := wrap32 (sra (s32 a) F * pow2 F)

/-- R109: negate, floor, negate, each in 32 bits, then reconstruct. -/
def ceilWord (F : Nat) (a : Word) : Word :=
  let t := negate a
  let u := sra (s32 t) F
  let n := wrap32 (-u)
  fromInteger F n

/-- R110: add or subtract `ROUND` by the sign, in 64 bits, divide by `ONE` toward zero, reconstruct. -/
def roundWord (F : Nat) (a : Word) : Word :=
  let t := s32 a + (if signBit a then -(roundRaw F : Int) else roundRaw F)
  let n := tdiv t (oneRaw F)
  wrap32 (n * pow2 F)

/-- `ADD a, b` (R101). -/
def execAdd (s : State) : Host.Outcome State Fault Refusal :=
  s.answer fun a b => .value (wrap32 (s32 a + s32 b))

/-- `SUB a, b` (R102). -/
def execSub (s : State) : Host.Outcome State Fault Refusal :=
  s.answer fun a b => .value (wrap32 (s32 a - s32 b))

/-- `NEG a` (R103). -/
def execNeg (s : State) : Host.Outcome State Fault Refusal :=
  s.answer fun a _ => .value (negate a)

/-- `SHL #sh, a` (R104): every amount 0 to 31 is legal. -/
def execShl (sh : Bits5) (s : State) : Host.Outcome State Fault Refusal :=
  s.answer fun a _ => .value (wrap32 (s32 a * pow2 sh.toNat))

/-- `SHR #sh, a` (R105): arithmetic, every amount 0 to 31 is legal. -/
def execShr (sh : Bits5) (s : State) : Host.Outcome State Fault Refusal :=
  s.answer fun a _ => .value (wrap32 (sra (s32 a) sh.toNat))

/-- `ABS a` (R106). -/
def execAbs (s : State) : Host.Outcome State Fault Refusal :=
  s.answer fun a _ => .value (absolute a)

/-- `SIGN q<F>, a` (R107). -/
def execSign (F : Bits5) (s : State) : Host.Outcome State Fault Refusal :=
  s.answer fun a _ => checkCount F (.value (signWord F.toNat a))

/-- `FLOOR q<F>, a` (R108). -/
def execFloor (F : Bits5) (s : State) : Host.Outcome State Fault Refusal :=
  s.answer fun a _ => checkCount F (.value (floorWord F.toNat a))

/-- `CEIL q<F>, a` (R109). -/
def execCeil (F : Bits5) (s : State) : Host.Outcome State Fault Refusal :=
  s.answer fun a _ => checkCount F (.value (ceilWord F.toNat a))

/-- `ROUND q<F>, a` (R110). -/
def execRound (F : Bits5) (s : State) : Host.Outcome State Fault Refusal :=
  s.answer fun a _ => checkCount F (.value (roundWord F.toNat a))

/-- `CEQ a, b` (R111). -/
def execCeq (s : State) : Host.Outcome State Fault Refusal :=
  s.answer fun a b => .value (truthWord (decide (s32 a = s32 b)))

/-- `CNE a, b` (R112). -/
def execCne (s : State) : Host.Outcome State Fault Refusal :=
  s.answer fun a b => .value (truthWord (decide (s32 a ≠ s32 b)))

/-- `CLT a, b` (R113). -/
def execClt (s : State) : Host.Outcome State Fault Refusal :=
  s.answer fun a b => .value (truthWord (decide (s32 a < s32 b)))

/-- `CLE a, b` (R114). -/
def execCle (s : State) : Host.Outcome State Fault Refusal :=
  s.answer fun a b => .value (truthWord (decide (s32 a ≤ s32 b)))

/-- `CGT a, b` (R115). -/
def execCgt (s : State) : Host.Outcome State Fault Refusal :=
  s.answer fun a b => .value (truthWord (decide (s32 a > s32 b)))

/-- `CGE a, b` (R116). -/
def execCge (s : State) : Host.Outcome State Fault Refusal :=
  s.answer fun a b => .value (truthWord (decide (s32 a ≥ s32 b)))

end Sys2Proof.Machine
end

