-- ==== Sys2Proof/Machine/Divide.lean ====
section
/-!
DEFINITION. The divider unit: DIV.H, DIV.M, DIV.L (R81 to R84) and the restoring schedule of R87.
-/

namespace Sys2Proof.Machine

/-- R81: the truncated quotient of the 64-bit dividend, corrected away from zero when twice the remainder reaches the divisor
(C2, decision D7); the low 32 bits. -/
def divHigh (F : Nat) (a b : Word) : Word :=
  let r := s32 b
  let D := s32 a * pow2 F
  let q0 := tdiv D r
  let rem := trem D r
  let up : Int := if 2 * rem.natAbs ≥ r.natAbs then 1 else 0
  let dir : Int := if (D < 0) ↔ (r < 0) then 1 else -1
  let q := q0 + dir * up
  wrap32 q

/-- R82: the truncated quotient of the magnitudes, its low 32 bits, then the sign (C3, decision D10). -/
def divMid (F : Nat) (a b : Word) : Word :=
  let neg := signBit a ^^ signBit b
  let x := mag32 a
  let y := mag32 b
  let m := x * 2 ^ F / y
  let mw := wrap32 m
  reapplySign neg mw

/-- R83: the 32-bit left shift, then the native signed division; the low 32 bits (decision D11). -/
def divLow (F : Nat) (a b : Word) : Word :=
  let n := s32 (wrap32 (s32 a * pow2 F))
  let q := tdiv n (s32 b)
  wrap32 q

/-- One step of the schedule of R87: the next bit of the numerator enters the remainder, and the divisor is subtracted where it
fits. The pair is (remainder, quotient). -/
def restoringStep (y : Nat) (bit : Bool) (rq : Nat × Nat) : Nat × Nat :=
  let rem := 2 * rq.1 + bit.toNat
  if rem ≥ y then (rem - y, 2 * rq.2 + 1) else (rem, 2 * rq.2)

/-- The schedule of R87 over the `i` bits of `N` above its lowest `W - i`, for `i` from 0 up: `restoring y N W W` is the pair
(`rem`, `quo`) after the whole loop `for i = W-1 downto 0`. -/
def restoring (y N W : Nat) : Nat → Nat × Nat
  | 0 => (0, 0)
  | i + 1 => restoringStep y (N.testBit (W - (i + 1))) (restoring y N W i)

/-- `DIV.H q<F>, a, b` (R81, R84). -/
def execDivH (F : Bits5) (s : State) : Host.Outcome State Fault Refusal :=
  s.answer fun a b => checkCount F (checkDivisor b (.value (divHigh F.toNat a b)))

/-- `DIV.M q<F>, a, b` (R82, R84). -/
def execDivM (F : Bits5) (s : State) : Host.Outcome State Fault Refusal :=
  s.answer fun a b => checkCount F (checkDivisor b (.value (divMid F.toNat a b)))

/-- `DIV.L q<F>, a, b` (R83, R84). -/
def execDivL (F : Bits5) (s : State) : Host.Outcome State Fault Refusal :=
  s.answer fun a b => checkCount F (checkDivisor b (.value (divLow F.toNat a b)))

end Sys2Proof.Machine
end

