-- ==== Sys2Proof/Machine/Multiply.lean ====
section
/-!
DEFINITION. The multiplier unit: MUL.H, MUL.M, MUL.L (R71 to R73).
-/

namespace Sys2Proof.Machine

/-- R71: the 64-bit signed product, the bias `ROUND` whatever its sign, an arithmetic shift, the low 32 bits. -/
def mulHigh (F : Nat) (a b : Word) : Word :=
  let p := s32 a * s32 b
  let t := p + roundRaw F
  let q := sra t F
  wrap32 q

/-- R72: the split product of the magnitudes, every intermediate a 32-bit unsigned word, then the sign. -/
def mulMid (F : Nat) (a b : Word) : Word :=
  let neg := signBit a ^^ signBit b
  let x := mag32 a
  let y := mag32 b
  let intA := srl x F
  let fracA := x &&& fractionMask F
  let intB := srl y F
  let fracB := y &&& fractionMask F
  let t1 := wrap32 (u32 (wrap32 (intA * intB)) * pow2 F)
  let t2 := wrap32 (intA * fracB)
  let t3 := wrap32 (intB * fracA)
  let t4 := srl (u32 (wrap32 (u32 (wrap32 (fracA * fracB)) + roundRaw F))) F
  let m := wrap32 (u32 t1 + u32 t2 + u32 t3 + t4)
  reapplySign neg m

/-- R73: the low 32 bits of the product, then an arithmetic shift of that signed word. -/
def mulLow (F : Nat) (a b : Word) : Word :=
  let p32 := wrap32 (s32 a * s32 b)
  wrap32 (sra (s32 p32) F)

/-- `MUL.H q<F>, a, b` (R71). -/
def execMulH (F : Bits5) (s : State) : Host.Outcome State Fault Refusal :=
  s.answer fun a b => checkCount F (.value (mulHigh F.toNat a b))

/-- `MUL.M q<F>, a, b` (R72). -/
def execMulM (F : Bits5) (s : State) : Host.Outcome State Fault Refusal :=
  s.answer fun a b => checkCount F (.value (mulMid F.toNat a b))

/-- `MUL.L q<F>, a, b` (R73). -/
def execMulL (F : Bits5) (s : State) : Host.Outcome State Fault Refusal :=
  s.answer fun a b => checkCount F (.value (mulLow F.toNat a b))

end Sys2Proof.Machine
end

