-- ==== Sys2Proof/Machine/Dispatch.lean ====
section
/-!
DEFINITION. One arm per command, each one call of its meaning: the command answers the head of the queue.
-/

namespace Sys2Proof.Machine

/-- The effect of a decoded command on the state: its response is presented (R31). -/
def exec (i : Instr) (s : State) : Host.Outcome State Fault Refusal :=
  match i with
  | .mulH F => Sys2Proof.Machine.execMulH F s
  | .mulM F => Sys2Proof.Machine.execMulM F s
  | .mulL F => Sys2Proof.Machine.execMulL F s
  | .divH F => Sys2Proof.Machine.execDivH F s
  | .divM F => Sys2Proof.Machine.execDivM F s
  | .divL F => Sys2Proof.Machine.execDivL F s
  | .cvt F B => Sys2Proof.Machine.execCvt F B s
  | .fromInt F => Sys2Proof.Machine.execFromInt F s
  | .toInt F => Sys2Proof.Machine.execToInt F s
  | .add => Sys2Proof.Machine.execAdd s
  | .sub => Sys2Proof.Machine.execSub s
  | .neg => Sys2Proof.Machine.execNeg s
  | .shl sh => Sys2Proof.Machine.execShl sh s
  | .shr sh => Sys2Proof.Machine.execShr sh s
  | .abs => Sys2Proof.Machine.execAbs s
  | .sign F => Sys2Proof.Machine.execSign F s
  | .floor F => Sys2Proof.Machine.execFloor F s
  | .ceil F => Sys2Proof.Machine.execCeil F s
  | .round F => Sys2Proof.Machine.execRound F s
  | .ceq => Sys2Proof.Machine.execCeq s
  | .cne => Sys2Proof.Machine.execCne s
  | .clt => Sys2Proof.Machine.execClt s
  | .cle => Sys2Proof.Machine.execCle s
  | .cgt => Sys2Proof.Machine.execCgt s
  | .cge => Sys2Proof.Machine.execCge s

end Sys2Proof.Machine
end

