-- ==== Sys2Proof/Machine/Issue.lean ====
section
/-!
DEFINITION. The command dispatcher (R2 part 1): decode the command that is due and run its meaning, and the pure function `Exec`
of R31 read off it.
-/

namespace Sys2Proof.Machine

/-- Decode the due command and answer it; a word no row selects is answered as an illegal command (R31 step 1, R60, R132). -/
def State.issue (s : State) : Host.Outcome State Fault Refusal :=
  match s.due with
  | none => .next s
  | some c =>
    match decode c.word with
    | .ok i => exec i s
    | .error _ => .next (s.takeFault .illegalCommand)

/-- What the response on the ports says, its result word dropped where the status is a fault's (R31: `(unspecified, ILLEGAL)`,
`(unspecified, DIVZERO)`, `(v, OK)`). -/
def State.replyOnPorts (s : State) : Reply :=
  if s.rspStatus = Status.divZero.code then .raises .divideByZero
  else if s.rspStatus = Status.illegal.code then .raises .illegalCommand
  else .value s.rspResult

/-- A block that holds one command and nothing else. -/
def State.alone (c : Command) : State := { State.reset with queue := [c] }

/-- `Exec(word, a, b)` of R31: the response of the command executed alone (R12, R46). -/
def execReply (c : Command) : Reply :=
  match (State.alone c).issue with
  | .next t => t.replyOnPorts
  | .fault _ => .raises .illegalCommand
  | .refused _ => .raises .illegalCommand

end Sys2Proof.Machine
end

