-- ==== Sys2Proof/Machine/Step.lean ====
section
/-!
DEFINITION. One step of the machine: one rising edge of the clock (R26).
-/

namespace Sys2Proof.Machine

/-- One rising edge: reset, or delivery and acceptance (R29, R30, R150), and then the answer of the command that is due (R31's `Exec`).
That one step is one edge followed by presentation is the model's choice (entry 1). -/
def step (s : State) : Host.Outcome State Fault Refusal := s.edge.issue

/-- The state whose next step answers exactly the given command: its command word is bits 31 to 0 of `w` (the first `nbits` kept),
its operand words `a` and `b` are bits 63 to 32 and 95 to 64, zero above `nbits` (R27; entry 14). -/
def State.withFetchWord (s : State) (nbits w : Nat) : State :=
  let bits := w % 2 ^ nbits
  s.withHead ⟨BitVec.ofNat 32 bits, BitVec.ofNat 32 (bits / 2 ^ 32), BitVec.ofNat 32 (bits / 2 ^ 64)⟩

end Sys2Proof.Machine
end

