-- ==== Sys2Proof/Machine/Assembly.lean ====
section
/-!
DEFINITION. The assembler syntax of the spec (R64) as a function from a command to its line, and command listings whose
lines name results (R65). Both are notations of the host: no state of the block belongs to them (R65).
-/

namespace Sys2Proof.Machine

/-- The mnemonic of each command (R58, R64). -/
def mnemonic : Instr → String
  | .mulH _ => "MUL.H"
  | .mulM _ => "MUL.M"
  | .mulL _ => "MUL.L"
  | .divH _ => "DIV.H"
  | .divM _ => "DIV.M"
  | .divL _ => "DIV.L"
  | .cvt _ _ => "CVT"
  | .fromInt _ => "FROMINT"
  | .toInt _ => "TOINT"
  | .add => "ADD"
  | .sub => "SUB"
  | .neg => "NEG"
  | .shl _ => "SHL"
  | .shr _ => "SHR"
  | .abs => "ABS"
  | .sign _ => "SIGN"
  | .floor _ => "FLOOR"
  | .ceil _ => "CEIL"
  | .round _ => "ROUND"
  | .ceq => "CEQ"
  | .cne => "CNE"
  | .clt => "CLT"
  | .cle => "CLE"
  | .cgt => "CGT"
  | .cge => "CGE"

/-- One hexadecimal or decimal digit, upper case. -/
def digit (n : Nat) : Char := "0123456789ABCDEF".toList.getD n '?'

/-- A 32-bit word as `0x` and eight digits (`00_scope.md` section 5). -/
def hexText (w : Word) : String :=
  "0x" ++ String.ofList ([7, 6, 5, 4, 3, 2, 1, 0].map fun k => digit (w.toNat / 16 ^ k % 16))

/-- A field in decimal: it is at most 31. -/
def decimalText (f : Bits5) : String :=
  if f.toNat < 10 then String.ofList [digit f.toNat] else String.ofList [digit (f.toNat / 10), digit (f.toNat % 10)]

/-- A type parameter, `q<F>` (R64). -/
def typeText (F : Bits5) : String := "q" ++ decimalText F

/-- Two operands (R64). -/
def pairText (a b : Word) : String := hexText a ++ ", " ++ hexText b

/-- The part of the line after the mnemonic, by format (R57, R64). -/
def operandText (a b : Word) : Instr → String
  | .mulH F | .mulM F | .mulL F | .divH F | .divM F | .divL F => typeText F ++ ", " ++ pairText a b
  | .cvt F B => typeText F ++ ", " ++ typeText B ++ ", " ++ hexText a
  | .fromInt F | .toInt F | .sign F | .floor F | .ceil F | .round F => typeText F ++ ", " ++ hexText a
  | .shl sh | .shr sh => "#" ++ decimalText sh ++ ", " ++ hexText a
  | .add | .sub | .ceq | .cne | .clt | .cle | .cgt | .cge => pairText a b
  | .neg | .abs => hexText a

/-- A command as one line of assembler text (R64). -/
def assemblyLine (i : Instr) (a b : Word) : String := mnemonic i ++ " " ++ operandText a b i

/-- An operand of a listing: a word, or the name `t<k>` of an earlier result (R65). -/
inductive ListingOperand where
  | literal (w : Word)
  | named (k : Nat)
deriving DecidableEq, Repr

/-- A line of a listing: the name it gives to its result, if any, its command word and its operands (R65). -/
structure ListingLine where
  name : Option Nat
  word : Word
  a : ListingOperand
  b : ListingOperand
deriving DecidableEq, Repr

/-- The word an operand stands for: none where its name is not defined, "an error of the listing" (R65). -/
def operandWord (names : List (Nat × Word)) : ListingOperand → Option Word
  | .literal w => some w
  | .named k => names.lookup k

/-- The names after a line: a line whose response has a fault status defines no name (R65). The latest definition is found first. -/
def namesAfter (l : ListingLine) (r : Reply) (names : List (Nat × Word)) : List (Nat × Word) :=
  match l.name, r with
  | some k, .value v => (k, v) :: names
  | some k, .raises _ => names.filter fun p => p.1 != k
  | none, _ => names

/-- The responses of a listing, line by line: the host reads each response and places named words on the later commands' operands
(R65). None: the listing has an error. -/
def runListing (names : List (Nat × Word)) : List ListingLine → Option (List Reply)
  | [] => some []
  | l :: ls =>
    match operandWord names l.a, operandWord names l.b with
    | some a, some b =>
      let r := execReply ⟨l.word, a, b⟩
      (runListing (namesAfter l r names) ls).map (r :: ·)
    | _, _ => none

end Sys2Proof.Machine
end

