-- ==== Sys2Proof/Machine/Reference.lean ====
section
/-!
DEFINITION. What a raw word stands for (R7), the constants derived from `F` that no command reads (R8), and the two host-side
reference maps between words and exact numbers (R95, R96). None of these is a command: the block has no floating-point hardware
(R3, entry 15). The maps are stated over any ordered field with a floor, so that they may be read over the reals or the rationals.
-/

namespace Sys2Proof.Machine

/-- `SIGN_BIT = 2^31` (R8). -/
def signBitRaw : Nat := 2 ^ 31

/-- `HALF_BITS = F/2` (R8): used by no operation; as the source writes it, not rounded. -/
def halfBits (F : Nat) : Rat := F / 2

/-- `ToReal_F(a)`: the value of a word, `s32(a) / 2^F` (R7, R96). -/
def toReal {K : Type} [Field K] (F : Nat) (a : Word) : K := (s32 a : K) / 2 ^ F

/-- `FromReal_F(x)`: `wrap32( sgn(x) * floor( abs(x) * 2^F + 1/2 ) )` (R95). -/
def fromReal {K : Type} [Field K] [LinearOrder K] [IsStrictOrderedRing K] [FloorRing K] (F : Nat) (x : K) : Word :=
  wrap32 ((SignType.sign x : Int) * ⌊|x| * 2 ^ F + 1 / 2⌋)

end Sys2Proof.Machine
end

