-- ==== Sys2Proof/Safety.lean ====
section
/-!
DEFINITION. The terms claims are stated in: a command that completes or faults, a response that answers a command, the invariant of
the block, and the record of what a run accepts and delivers.
-/

namespace Sys2Proof.Machine

/-- The row of R58 with this mask and match selects the command built from `word[12:8]` and `word[20:16]`. -/
def Selects (mask value : Word) (build : Bits5 → Bits5 → Instr) : Prop :=
  ∀ w : Word, w &&& mask = value → decode w = .ok (build (w.extractLsb' 8 5) (w.extractLsb' 16 5))

/-- The command completes with result `v` and status `OK`, and changes nothing of the state but the three response ports. -/
def Completes (i : Instr) (s : State) (v : Word) : Prop :=
  exec i s = .next { s with rspValid := true, rspResult := v, rspStatus := 0b00 }

/-- The command answers with a fault status and some result word, and changes nothing else of the state but the counter free
values are drawn from, which is the model's own (entry 10). -/
def AnswersFault (i : Instr) (s : State) (code : BitVec 2) : Prop :=
  ∃ (r : Word) (d : Nat), exec i s = .next { s with rspValid := true, rspResult := r, rspStatus := code, draws := d }

/-- A response answers a command: it is `Exec` of the command, its result word open where the status is a fault's (R30, R31). -/
def Answers (c : Command) (r : Response) : Prop :=
  match execReply c with
  | .value v => r = ⟨v, 0b00⟩
  | .raises .divideByZero => r.status = 0b01
  | .raises .illegalCommand => r.status = 0b10

/-- The invariant of the block: `Q` holds at most `DEPTH` commands (R25), `cmd_ready = 1` only with room (R29), and a response
presented is that of the head of `Q` (R30). -/
structure State.Inv (s : State) : Prop where
  bounded : s.queue.length ≤ Config.depth
  ready : s.cmdReady = true → s.queue.length < Config.depth
  presented : s.rspValid = true → ∃ c rest, s.queue = c :: rest ∧ Answers c s.response

/-- The command accepted at the coming edge, if any (R29). -/
def State.acceptedNow (s : State) : List Command := if s.accepts then [s.pins.command] else []

/-- The response delivered at the coming edge, if any (R30). -/
def State.deliveredNow (s : State) : List Response := if s.delivers then [s.response] else []

/-- What a run of the machine accepted and delivered, in order, and where it ended. -/
structure Trace where
  accepted : List Command
  delivered : List Response
  final : State

/-- The record of `n` steps. None where a step stops. -/
def trace : Nat → State → Option Trace
  | 0, s => some ⟨[], [], s⟩
  | n + 1, s =>
    match step s with
    | .next t => (trace n t).map fun r => ⟨s.acceptedNow ++ r.accepted, s.deliveredNow ++ r.delivered, r.final⟩
    | .fault _ => none
    | .refused _ => none

/-- The host does not reset the block in the first `n` edges. -/
def State.unreset (s : State) (n : Nat) : Prop := ∀ p ∈ s.host.take n, p.rst = false

end Sys2Proof.Machine
end

