-- ==== Sys2Proof/Certificates/Slice0/Obligations.lean ====
section
/-!
DEFINITION. The statements for the provers. Each quotes or rests on the numbered rules of spec/ named in its docstring.
-/

open Sys2Proof Sys2Proof.Machine

/-! ### Encoding (R55 to R66) -/

/-- R55 to R58: decoding the word of a command gives the command back, for every value of its fields. -/
def Obligations.DecodeInvertsEncode : Prop :=
  ∀ i : Instr, decode (encode i) = .ok i

/-- R58, R60: a word that decodes is the encoding of what it decodes to, so no two words mean one command. -/
def Obligations.EncodeInvertsDecode : Prop :=
  ∀ (w : Word) (i : Instr), decode w = .ok i → encode i = w

/-- R58, with the fields of R55: a word selects a command exactly when (word AND mask) = match for the command's row. -/
def Obligations.DecodeFollowsTheOpcodeMap : Prop :=
  ∀ (w : Word) (i : Instr),
    let F : Bits5 := w.extractLsb' 8 5
    let B : Bits5 := w.extractLsb' 16 5
    decode w = .ok i ↔
      (w &&& 0xFFFFE0FF = 0x00000001 ∧ i = .mulH F) ∨ (w &&& 0xFFFFE0FF = 0x00000021 ∧ i = .mulM F) ∨
      (w &&& 0xFFFFE0FF = 0x00000041 ∧ i = .mulL F) ∨ (w &&& 0xFFFFE0FF = 0x00000002 ∧ i = .divH F) ∨
      (w &&& 0xFFFFE0FF = 0x00000022 ∧ i = .divM F) ∨ (w &&& 0xFFFFE0FF = 0x00000042 ∧ i = .divL F) ∨
      (w &&& 0xFFE0E0FF = 0x00000003 ∧ i = .cvt F B) ∨ (w &&& 0xFFFFE0FF = 0x00000004 ∧ i = .fromInt F) ∨
      (w &&& 0xFFFFE0FF = 0x00000005 ∧ i = .toInt F) ∨ (w &&& 0xFFFFFFFF = 0x00000008 ∧ i = .add) ∨
      (w &&& 0xFFFFFFFF = 0x00000009 ∧ i = .sub) ∨ (w &&& 0xFFFFFFFF = 0x0000000A ∧ i = .neg) ∨
      (w &&& 0xFFE0FFFF = 0x0000000B ∧ i = .shl B) ∨ (w &&& 0xFFE0FFFF = 0x0000000C ∧ i = .shr B) ∨
      (w &&& 0xFFFFFFFF = 0x00000010 ∧ i = .abs) ∨ (w &&& 0xFFFFE0FF = 0x00000011 ∧ i = .sign F) ∨
      (w &&& 0xFFFFE0FF = 0x00000012 ∧ i = .floor F) ∨ (w &&& 0xFFFFE0FF = 0x00000013 ∧ i = .ceil F) ∨
      (w &&& 0xFFFFE0FF = 0x00000014 ∧ i = .round F) ∨ (w &&& 0xFFFFFFFF = 0x00000018 ∧ i = .ceq) ∨
      (w &&& 0xFFFFFFFF = 0x00000019 ∧ i = .cne) ∨ (w &&& 0xFFFFFFFF = 0x0000001A ∧ i = .clt) ∨
      (w &&& 0xFFFFFFFF = 0x0000001B ∧ i = .cle) ∨ (w &&& 0xFFFFFFFF = 0x0000001C ∧ i = .cgt) ∨
      (w &&& 0xFFFFFFFF = 0x0000001D ∧ i = .cge)

/-- R132, and with it R60 and R61: the command due is answered `ILLEGAL` exactly when its word has one of the causes (a) to (e),
whatever its operands. -/
def Obligations.IllegalWordsAnswerIllegal : Prop :=
  ∀ (s : State) (c : Command), s.due = some c →
    let op : BitVec 5 := c.word.extractLsb' 0 5
    let strat : BitVec 2 := c.word.extractLsb' 5 2
    let F : BitVec 5 := c.word.extractLsb' 8 5
    let B : BitVec 5 := c.word.extractLsb' 16 5
    let formatS := op ∈ [0x01#5, 0x02#5]
    let formatC := op = 0x03#5
    let formatT := op ∈ [0x04#5, 0x05#5, 0x11#5, 0x12#5, 0x13#5, 0x14#5]
    let formatH := op ∈ [0x0B#5, 0x0C#5]
    let causeA := op ∈ [0x00#5, 0x06#5, 0x07#5, 0x0D#5, 0x0E#5, 0x0F#5, 0x15#5, 0x16#5, 0x17#5, 0x1E#5, 0x1F#5]
    let causeB := (formatS ∧ strat = 0b11#2) ∨ (¬ formatS ∧ strat ≠ 0b00#2)
    let causeC := c.word.getLsbD 7 = true ∨ c.word.extractLsb' 13 3 ≠ 0#3 ∨ c.word.extractLsb' 21 11 ≠ 0#11
    let causeD := (¬ (formatS ∨ formatC ∨ formatT) ∧ F ≠ 0#5) ∨ (¬ (formatC ∨ formatH) ∧ B ≠ 0#5)
    let causeE := ((formatS ∨ formatC ∨ formatT) ∧ (F = 0#5 ∨ F = 31#5)) ∨ (formatC ∧ (B = 0#5 ∨ B = 31#5))
    ((causeA ∨ causeB ∨ causeC ∨ causeD ∨ causeE) →
      ∃ (r : Word) (d : ℕ), s.issue = .next { s with rspValid := true, rspResult := r, rspStatus := 0b10, draws := d }) ∧
    (¬ (causeA ∨ causeB ∨ causeC ∨ causeD ∨ causeE) → ∃ t, s.issue = .next t ∧ t.rspStatus ≠ 0b10)

/-- `95_test_vectors.md` section 6, from R58 and R59: exactly 1334 of the 2^32 words are legal. -/
def Obligations.LegalWordCount : Prop :=
  {w : Word | legalWord w = true}.ncard = 1334

/-- R64's own example words, one of each format, decode to the commands they stand for. -/
def Obligations.ExampleWordsDecode : Prop :=
  decode 0x00001001 = .ok (.mulH 16) ∧ decode 0x00100803 = .ok (.cvt 8 16) ∧ decode 0x00001014 = .ok (.round 16) ∧
  decode 0x0004000C = .ok (.shr 4) ∧ decode 0x0000001A = .ok .clt ∧ decode 0x00000010 = .ok .abs

/-- R66: the expansions and the words of the four pseudo-commands. -/
def Obligations.PseudoCommandWords : Prop :=
  (Instr.mulQ16H = .mulH 16 ∧ encode Instr.mulQ16H = 0x00001001) ∧
  (Instr.divQ16H = .divH 16 ∧ encode Instr.divQ16H = 0x00001002) ∧
  (Instr.mulQ8L = .mulL 8 ∧ encode Instr.mulQ8L = 0x00000841) ∧
  (Instr.divQ8L = .divL 8 ∧ encode Instr.divQ8L = 0x00000842)

/-! ### The multiplier (R70 to R76) -/

/-- R71: MUL.H is selected by its row and completes with the biased product, shifted arithmetically, its low 32 bits. -/
def Obligations.MulHighIsTheBiasedProductShifted : Prop :=
  Selects 0xFFFFE0FF 0x00000001 (fun F _ => .mulH F) ∧
  ∀ (F : Bits5) (s : State) (c : Command) (rest : List Command),
    s.queue = c :: rest → 1 ≤ F.toNat → F.toNat ≤ 30 →
    Completes (.mulH F) s
      (BitVec.ofInt 32 ((c.a.toInt * c.b.toInt + 2 ^ (F.toNat - 1)) / 2 ^ F.toNat))

/-- R72: MUL.M is selected by its row and completes with the split product of the magnitudes, every term and the sum
reduced modulo 2^32, and the sign reapplied. -/
def Obligations.MulMidIsTheSplitProductOfMagnitudes : Prop :=
  Selects 0xFFFFE0FF 0x00000021 (fun F _ => .mulM F) ∧
  ∀ (F : Bits5) (s : State) (c : Command) (rest : List Command),
    s.queue = c :: rest → 1 ≤ F.toNat → F.toNat ≤ 30 →
    let n := F.toNat
    let x := c.a.toInt.natAbs
    let y := c.b.toInt.natAbs
    let intA := x / 2 ^ n
    let fracA := x % 2 ^ n
    let intB := y / 2 ^ n
    let fracB := y % 2 ^ n
    let t1 := intA * intB * 2 ^ n
    let t2 := intA * fracB
    let t3 := intB * fracA
    let t4 := (fracA * fracB + 2 ^ (n - 1)) % 2 ^ 32 / 2 ^ n
    let m : Word := BitVec.ofNat 32 (t1 + t2 + t3 + t4)
    Completes (.mulM F) s (if c.a.getLsbD 31 ≠ c.b.getLsbD 31 then -m else m)

/-- R73: MUL.L is selected by its row and completes with the low 32 bits of the product, read as signed, shifted
arithmetically. -/
def Obligations.MulLowShiftsTheLowProduct : Prop :=
  Selects 0xFFFFE0FF 0x00000041 (fun F _ => .mulL F) ∧
  ∀ (F : Bits5) (s : State) (c : Command) (rest : List Command),
    s.queue = c :: rest → 1 ≤ F.toNat → F.toNat ≤ 30 →
    Completes (.mulL F) s ((c.a * c.b).sshiftRight F.toNat)

/-- R70: the result of each multiply does not depend on the order of its operands. -/
def Obligations.MultiplyIsCommutative : Prop :=
  ∀ (F : Bits5) (s : State) (c : Command) (rest : List Command) (i : Instr),
    i ∈ [Instr.mulH F, Instr.mulM F, Instr.mulL F] → s.queue = c :: rest → 1 ≤ F.toNat → F.toNat ≤ 30 →
    ∃ v : Word, Completes i s v ∧ Completes i { s with queue := ⟨c.word, c.b, c.a⟩ :: rest } v

/-- R71 corner case 4: with `b = ONE`, MUL.H returns `a` for every `a`; MUL.M too, since R76 gives it the exact product there. -/
def Obligations.MultiplyByOneReturnsTheOperand : Prop :=
  ∀ (F : Bits5) (s : State) (c : Command) (rest : List Command),
    s.queue = c :: rest → 1 ≤ F.toNat → F.toNat ≤ 30 → c.b = BitVec.ofNat 32 (2 ^ F.toNat) →
    Completes (.mulH F) s c.a ∧ Completes (.mulM F) s c.a

/-- R75: when the result of MUL.H fits 32 signed bits it differs from the exact raw product by at most half an ulp. -/
def Obligations.MulHighIsWithinHalfAnUlp : Prop :=
  ∀ (F : Bits5) (s : State) (c : Command) (rest : List Command),
    s.queue = c :: rest → 1 ≤ F.toNat → F.toNat ≤ 30 →
    let P : ℚ := (c.a.toInt * c.b.toInt : ℤ) / 2 ^ F.toNat
    (-(2 ^ 31) ≤ ⌊P + 1 / 2⌋ ∧ ⌊P + 1 / 2⌋ ≤ 2 ^ 31 - 1) →
    ∃ v : Word, Completes (.mulH F) s v ∧ -(1 / 2) < (v.toInt : ℚ) - P ∧ (v.toInt : ℚ) - P ≤ 1 / 2

/-- R76: where each multiply is exact, and the result there. -/
def Obligations.MultiplyExactnessRanges : Prop :=
  ∀ (F : Bits5) (s : State) (c : Command) (rest : List Command),
    s.queue = c :: rest → 1 ≤ F.toNat → F.toNat ≤ 30 →
    let n := F.toNat
    let p := c.a.toInt * c.b.toInt
    let P : ℚ := (p : ℚ) / 2 ^ n
    let x := c.a.toInt.natAbs
    let y := c.b.toInt.natAbs
    ((-(2 ^ 31) ≤ (p + 2 ^ (n - 1)) / 2 ^ n ∧ (p + 2 ^ (n - 1)) / 2 ^ n ≤ 2 ^ 31 - 1) →
      ∃ v : Word, Completes (.mulH F) s v ∧ v.toInt = ⌊P + 1 / 2⌋) ∧
    ((x % 2 ^ n) * (y % 2 ^ n) + 2 ^ (n - 1) < 2 ^ 32 →
      ((x * y + 2 ^ (n - 1)) / 2 ^ n ≤ 2 ^ 31 - 1 ∨
        ((x * y + 2 ^ (n - 1)) / 2 ^ n = 2 ^ 31 ∧ c.a.getLsbD 31 ≠ c.b.getLsbD 31)) →
      ∃ v : Word, Completes (.mulM F) s v ∧ v.toInt = p.sign * ⌊|P| + 1 / 2⌋) ∧
    ((-(2 ^ 31) ≤ p ∧ p ≤ 2 ^ 31 - 1) → ∃ v : Word, Completes (.mulL F) s v ∧ v.toInt = ⌊P⌋)

/-- R74: the three multiplies agree within one ulp where the exactness conditions hold. -/
def Obligations.MultiplyVariantsAgree : Prop :=
  ∀ (F : Bits5) (s : State) (c : Command) (rest : List Command),
    s.queue = c :: rest → 1 ≤ F.toNat → F.toNat ≤ 30 →
    let n := F.toNat
    let p := c.a.toInt * c.b.toInt
    let x := c.a.toInt.natAbs
    let y := c.b.toInt.natAbs
    let midExact := (x % 2 ^ n) * (y % 2 ^ n) + 2 ^ (n - 1) < 2 ^ 32 ∧
      ((x * y + 2 ^ (n - 1)) / 2 ^ n ≤ 2 ^ 31 - 1 ∨
        ((x * y + 2 ^ (n - 1)) / 2 ^ n = 2 ^ 31 ∧ c.a.getLsbD 31 ≠ c.b.getLsbD 31))
    let lowExact := -(2 ^ 31) ≤ p ∧ p ≤ 2 ^ 31 - 1
    let negativeTie := p < 0 ∧ (-p) % 2 ^ n = 2 ^ (n - 1)
    ∃ h m l : Word, Completes (.mulH F) s h ∧ Completes (.mulM F) s m ∧ Completes (.mulL F) s l ∧
      (midExact → (¬ negativeTie → m = h) ∧ (negativeTie → h.toInt = m.toInt + 1)) ∧
      (lowExact → (p % 2 ^ n ≥ 2 ^ (n - 1) → h.toInt - l.toInt = 1) ∧
        (p % 2 ^ n < 2 ^ (n - 1) → h.toInt - l.toInt = 0)) ∧
      (midExact → lowExact → l.toInt ≤ m.toInt ∧ m.toInt ≤ h.toInt ∧ h.toInt - l.toInt ≤ 1)

/-! ### The divider (R80 to R87) -/

/-- R81: DIV.H is selected by its row and, with a nonzero divisor, completes with the truncated quotient corrected away from
zero when twice the remainder reaches the divisor. -/
def Obligations.DivHighIsTheCorrectedQuotient : Prop :=
  Selects 0xFFFFE0FF 0x00000002 (fun F _ => .divH F) ∧
  ∀ (F : Bits5) (s : State) (c : Command) (rest : List Command),
    s.queue = c :: rest → 1 ≤ F.toNat → F.toNat ≤ 30 →
    (c.b = 0 → AnswersFault (.divH F) s 0b01) ∧
    (c.b ≠ 0 →
      let r := c.b.toInt
      let D := c.a.toInt * 2 ^ F.toNat
      let up : ℤ := if 2 * |D.tmod r| ≥ |r| then 1 else 0
      let dir : ℤ := if D < 0 ↔ r < 0 then 1 else -1
      Completes (.divH F) s (BitVec.ofInt 32 (D.tdiv r + dir * up)))

/-- R82: DIV.M is selected by its row and, with a nonzero divisor, completes with the truncated quotient of the magnitudes, its
low 32 bits, the sign reapplied. -/
def Obligations.DivMidIsTheTruncatedMagnitudeQuotient : Prop :=
  Selects 0xFFFFE0FF 0x00000022 (fun F _ => .divM F) ∧
  ∀ (F : Bits5) (s : State) (c : Command) (rest : List Command),
    s.queue = c :: rest → 1 ≤ F.toNat → F.toNat ≤ 30 →
    (c.b = 0 → AnswersFault (.divM F) s 0b01) ∧
    (c.b ≠ 0 →
      let m : Word := BitVec.ofNat 32 (c.a.toInt.natAbs * 2 ^ F.toNat / c.b.toInt.natAbs)
      Completes (.divM F) s (if c.a.getLsbD 31 ≠ c.b.getLsbD 31 then -m else m))

/-- R83: DIV.L is selected by its row and, with a nonzero divisor, completes with the 32-bit left shift divided toward zero, its
low 32 bits (also for -2^31 by -1). -/
def Obligations.DivLowDividesTheShiftedWord : Prop :=
  Selects 0xFFFFE0FF 0x00000042 (fun F _ => .divL F) ∧
  ∀ (F : Bits5) (s : State) (c : Command) (rest : List Command),
    s.queue = c :: rest → 1 ≤ F.toNat → F.toNat ≤ 30 →
    (c.b = 0 → AnswersFault (.divL F) s 0b01) ∧
    (c.b ≠ 0 → Completes (.divL F) s (BitVec.ofInt 32 ((c.a <<< F.toNat).toInt.tdiv c.b.toInt)))

/-- R84, R131: a legal divide whose divisor word is zero answers `DIVZERO`, whatever `a`, and no other command ever does. -/
def Obligations.DivideByZeroExactlyOnLegalDivides : Prop :=
  ∀ (i : Instr) (s : State) (c : Command) (rest : List Command), s.queue = c :: rest →
    let fails := (∃ F : Bits5, (i = .divH F ∨ i = .divM F ∨ i = .divL F) ∧ 1 ≤ F.toNat ∧ F.toNat ≤ 30) ∧ c.b = 0
    (fails → AnswersFault i s 0b01) ∧ (¬ fails → ∃ t, exec i s = .next t ∧ t.rspStatus ≠ 0b01)

/-- R86: where each divide is exact, and the result there. -/
def Obligations.DivideExactnessRanges : Prop :=
  ∀ (F : Bits5) (s : State) (c : Command) (rest : List Command),
    s.queue = c :: rest → 1 ≤ F.toNat → F.toNat ≤ 30 → c.b ≠ 0 →
    let D := c.a.toInt * 2 ^ F.toNat
    let Q : ℚ := (D : ℚ) / c.b.toInt
    let sgnQ : ℤ := D.sign * c.b.toInt.sign
    ((-(2 ^ 31) ≤ sgnQ * ⌊|Q| + 1 / 2⌋ ∧ sgnQ * ⌊|Q| + 1 / 2⌋ ≤ 2 ^ 31 - 1) →
      ∃ v : Word, Completes (.divH F) s v ∧ v.toInt = sgnQ * ⌊|Q| + 1 / 2⌋) ∧
    ((⌊|Q|⌋ ≤ 2 ^ 31 - 1 ∨ (⌊|Q|⌋ = 2 ^ 31 ∧ Q < 0)) →
      ∃ v : Word, Completes (.divM F) s v ∧ v.toInt = sgnQ * ⌊|Q|⌋) ∧
    ((-(2 ^ 31) ≤ D ∧ D ≤ 2 ^ 31 - 1 ∧ ¬ (D = -(2 ^ 31) ∧ c.b.toInt = -1)) →
      ∃ v : Word, Completes (.divL F) s v ∧ v.toInt = sgnQ * ⌊|Q|⌋)

/-- R85: dividing a nonzero word by itself gives ONE, in DIV.L only where the shift does not overflow. -/
def Obligations.DividingAWordByItselfGivesOne : Prop :=
  ∀ (F : Bits5) (s : State) (c : Command) (rest : List Command),
    s.queue = c :: rest → 1 ≤ F.toNat → F.toNat ≤ 30 → c.a ≠ 0 → c.b = c.a →
    let one : Word := BitVec.ofNat 32 (2 ^ F.toNat)
    Completes (.divH F) s one ∧ Completes (.divM F) s one ∧
    ((-(2 ^ (31 - F.toNat)) ≤ c.a.toInt ∧ c.a.toInt ≤ 2 ^ (31 - F.toNat) - 1) → Completes (.divL F) s one) ∧
    (¬ (-(2 ^ (31 - F.toNat)) ≤ c.a.toInt ∧ c.a.toInt ≤ 2 ^ (31 - F.toNat) - 1) →
      Completes (.divL F) s (BitVec.ofInt 32 ((c.a <<< F.toNat).toInt.tdiv c.a.toInt)))

/-- R87: after `W` steps the schedule holds the remainder and the quotient, no step needs more than a 33-bit comparison, and
DIV.M is the schedule run on the magnitudes with `W = 32 + F`. -/
def Obligations.RestoringScheduleDivides : Prop :=
  (∀ y N W : ℕ, 1 ≤ y → y ≤ 2 ^ 31 → N < 2 ^ W →
    restoring y N W W = (N % y, N / y) ∧
    ∀ i < W, (restoring y N W i).1 < y ∧
      2 * (restoring y N W i).1 + (N.testBit (W - (i + 1))).toNat < 2 ^ 32) ∧
  (∀ (F : Bits5) (s : State) (c : Command) (rest : List Command),
    s.queue = c :: rest → 1 ≤ F.toNat → F.toNat ≤ 30 → c.b ≠ 0 →
    let W := 32 + F.toNat
    let quo : Word := BitVec.ofNat 32 (restoring c.b.toInt.natAbs (c.a.toInt.natAbs * 2 ^ F.toNat) W W).2
    Completes (.divM F) s (if c.a.getLsbD 31 ≠ c.b.getLsbD 31 then -quo else quo))

/-! ### The rescale unit (R90 to R97) -/

/-- R91: CVT is selected by its row and completes with a left shift that wraps where `B < F`, else with an arithmetic right
shift that floors. -/
def Obligations.CvtShiftsTheWord : Prop :=
  Selects 0xFFE0E0FF 0x00000003 (fun F B => .cvt F B) ∧
  ∀ (F B : Bits5) (s : State) (c : Command) (rest : List Command),
    s.queue = c :: rest → 1 ≤ F.toNat → F.toNat ≤ 30 → 1 ≤ B.toNat → B.toNat ≤ 30 →
    Completes (.cvt F B) s
      (if B.toNat < F.toNat then c.a <<< (F.toNat - B.toNat) else c.a.sshiftRight (B.toNat - F.toNat))

/-- R92: the three laws of CVT. -/
def Obligations.CvtRoundTrips : Prop :=
  ∀ (F B : Bits5) (s : State) (c : Command) (rest : List Command),
    s.queue = c :: rest → 1 ≤ F.toNat → F.toNat ≤ 30 → 1 ≤ B.toNat → B.toNat ≤ 30 →
    ∃ v : Word, Completes (.cvt F B) s v ∧
      ∃ w : Word, (∀ (s' : State) (c' : Command) (rest' : List Command),
          s'.queue = c' :: rest' → c'.a = v → Completes (.cvt B F) s' w) ∧
        (B.toNat < F.toNat → -(2 ^ (31 - (F.toNat - B.toNat))) ≤ c.a.toInt →
          c.a.toInt ≤ 2 ^ (31 - (F.toNat - B.toNat)) - 1 → w = c.a) ∧
        (F.toNat < B.toNat →
          w = c.a &&& ~~~(BitVec.ofNat 32 (2 ^ (B.toNat - F.toNat) - 1)) ∧ w.toInt ≤ c.a.toInt ∧
          (toReal F.toNat v : ℚ) ≤ toReal B.toNat c.a ∧ (toReal B.toNat c.a : ℚ) < toReal F.toNat v + 1 / 2 ^ F.toNat)

/-- R93: FROMINT is selected by its row and completes with the operand shifted left by `F`, high bits lost. -/
def Obligations.FromIntScalesTheInteger : Prop :=
  Selects 0xFFFFE0FF 0x00000004 (fun F _ => .fromInt F) ∧
  ∀ (F : Bits5) (s : State) (c : Command) (rest : List Command),
    s.queue = c :: rest → 1 ≤ F.toNat → F.toNat ≤ 30 → Completes (.fromInt F) s (c.a <<< F.toNat)

/-- R94: TOINT is selected by its row and completes with `floor(s32(a) / 2^F)`. -/
def Obligations.ToIntFloorsTheWord : Prop :=
  Selects 0xFFFFE0FF 0x00000005 (fun F _ => .toInt F) ∧
  ∀ (F : Bits5) (s : State) (c : Command) (rest : List Command),
    s.queue = c :: rest → 1 ≤ F.toNat → F.toNat ≤ 30 →
    ∃ v : Word, Completes (.toInt F) s v ∧ v.toInt = ⌊(c.a.toInt : ℚ) / 2 ^ F.toNat⌋

/-- R97 (1): an integer that fits after scaling comes back from FROMINT and TOINT. -/
def Obligations.IntegerRoundTrip : Prop :=
  ∀ (F : Bits5) (s : State) (c : Command) (rest : List Command),
    s.queue = c :: rest → 1 ≤ F.toNat → F.toNat ≤ 30 →
    -(2 ^ (31 - F.toNat)) ≤ c.a.toInt → c.a.toInt ≤ 2 ^ (31 - F.toNat) - 1 →
    ∃ v : Word, Completes (.fromInt F) s v ∧
      ∀ (s' : State) (c' : Command) (rest' : List Command),
        s'.queue = c' :: rest' → c'.a = v → Completes (.toInt F) s' c.a

/-- R97 (2), with the maps of R95 and R96: a real number whose scaled value fits comes back within half an ulp. -/
def Obligations.RealRoundTrip : Prop :=
  ∀ (F : ℕ) (x : ℝ), 1 ≤ F → F ≤ 30 →
    -(2 ^ 31) ≤ (SignType.sign x : ℤ) * ⌊|x| * 2 ^ F + 1 / 2⌋ →
    (SignType.sign x : ℤ) * ⌊|x| * 2 ^ F + 1 / 2⌋ ≤ 2 ^ 31 - 1 →
    |toReal F (fromReal F x) - x| ≤ 1 / 2 ^ (F + 1)

/-- R95 and R96, their own examples at `F = 16`, and the half ulp of `95_test_vectors.md` section 4. -/
def Obligations.ReferenceMapExamples : Prop :=
  fromReal 16 (5 / 2 : ℚ) = 0x00028000 ∧ fromReal 16 (-5 / 2 : ℚ) = 0xFFFD8000 ∧
  fromReal 16 (-3 / 2 : ℚ) = 0xFFFE8000 ∧ fromReal 16 (1 / 10 : ℚ) = 0x0000199A ∧ fromReal 16 (0 : ℚ) = 0 ∧
  fromReal 8 (-1 / 512 : ℚ) = 0xFFFFFFFF ∧
  toReal 16 0x00036000 = (27 / 8 : ℚ) ∧ toReal 8 0x00000155 = (341 / 256 : ℚ)

/-! ### The auxiliary unit (R100 to R119) -/

/-- R101, R102, R103: sum, difference and negation modulo 2^32. -/
def Obligations.AddSubNegWrap : Prop :=
  Selects 0xFFFFFFFF 0x00000008 (fun _ _ => .add) ∧ Selects 0xFFFFFFFF 0x00000009 (fun _ _ => .sub) ∧
  Selects 0xFFFFFFFF 0x0000000A (fun _ _ => .neg) ∧
  ∀ (s : State) (c : Command) (rest : List Command), s.queue = c :: rest →
    Completes .add s (c.a + c.b) ∧ Completes .sub s (c.a - c.b) ∧ Completes .neg s (-c.a)

/-- R104, R105: the left shift that fills with zeros and the arithmetic right shift, for every amount 0 to 31. -/
def Obligations.ShiftsByEveryAmount : Prop :=
  Selects 0xFFE0FFFF 0x0000000B (fun _ sh => .shl sh) ∧ Selects 0xFFE0FFFF 0x0000000C (fun _ sh => .shr sh) ∧
  ∀ (sh : Bits5) (s : State) (c : Command) (rest : List Command), s.queue = c :: rest →
    Completes (.shl sh) s (c.a <<< sh.toNat) ∧ Completes (.shr sh) s (c.a.sshiftRight sh.toNat)

/-- R106: negate where the sign bit is set, else identity. -/
def Obligations.AbsNegatesNegativeWords : Prop :=
  Selects 0xFFFFFFFF 0x00000010 (fun _ _ => .abs) ∧
  ∀ (s : State) (c : Command) (rest : List Command), s.queue = c :: rest →
    Completes .abs s (if c.a.getLsbD 31 then -c.a else c.a)

/-- R107: `-ONE` where the sign bit is set, else `+ONE`, zero included. -/
def Obligations.SignIsPlusOrMinusOne : Prop :=
  Selects 0xFFFFE0FF 0x00000011 (fun F _ => .sign F) ∧
  ∀ (F : Bits5) (s : State) (c : Command) (rest : List Command),
    s.queue = c :: rest → 1 ≤ F.toNat → F.toNat ≤ 30 →
    let one : Word := BitVec.ofNat 32 (2 ^ F.toNat)
    Completes (.sign F) s (if c.a.getLsbD 31 then -one else one)

/-- R108: FLOOR completes with the floor reconstructed, which is the word with its low `F` bits cleared, and never overflows. -/
def Obligations.FloorClearsTheFraction : Prop :=
  Selects 0xFFFFE0FF 0x00000012 (fun F _ => .floor F) ∧
  ∀ (F : Bits5) (s : State) (c : Command) (rest : List Command),
    s.queue = c :: rest → 1 ≤ F.toNat → F.toNat ≤ 30 →
    ∃ v : Word, Completes (.floor F) s v ∧ v = c.a &&& ~~~(BitVec.ofNat 32 (2 ^ F.toNat - 1)) ∧
      v.toInt = ⌊(c.a.toInt : ℚ) / 2 ^ F.toNat⌋ * 2 ^ F.toNat

/-- R109: CEIL completes with `wrap32(ceil(s32(a) / 2^F) * 2^F)` for every `a`. -/
def Obligations.CeilIsTheCeilingReconstructed : Prop :=
  Selects 0xFFFFE0FF 0x00000013 (fun F _ => .ceil F) ∧
  ∀ (F : Bits5) (s : State) (c : Command) (rest : List Command),
    s.queue = c :: rest → 1 ≤ F.toNat → F.toNat ≤ 30 →
    Completes (.ceil F) s (BitVec.ofInt 32 (⌈(c.a.toInt : ℚ) / 2 ^ F.toNat⌉ * 2 ^ F.toNat))

/-- R110: ROUND completes with the nearest integer, ties away from zero, reconstructed modulo 2^32. -/
def Obligations.RoundIsNearestTiesAwayFromZero : Prop :=
  Selects 0xFFFFE0FF 0x00000014 (fun F _ => .round F) ∧
  ∀ (F : Bits5) (s : State) (c : Command) (rest : List Command),
    s.queue = c :: rest → 1 ≤ F.toNat → F.toNat ≤ 30 →
    Completes (.round F) s
      (BitVec.ofInt 32 (c.a.toInt.sign * ((|c.a.toInt| + 2 ^ (F.toNat - 1)) / 2 ^ F.toNat) * 2 ^ F.toNat))

/-- R111 to R116 and R119: the six comparisons of the signed readings, 1 for true and 0 for false. -/
def Obligations.ComparisonsAreSigned : Prop :=
  (Selects 0xFFFFFFFF 0x00000018 (fun _ _ => .ceq) ∧ Selects 0xFFFFFFFF 0x00000019 (fun _ _ => .cne) ∧
   Selects 0xFFFFFFFF 0x0000001A (fun _ _ => .clt) ∧ Selects 0xFFFFFFFF 0x0000001B (fun _ _ => .cle) ∧
   Selects 0xFFFFFFFF 0x0000001C (fun _ _ => .cgt) ∧ Selects 0xFFFFFFFF 0x0000001D (fun _ _ => .cge)) ∧
  ∀ (s : State) (c : Command) (rest : List Command), s.queue = c :: rest →
    Completes .ceq s (if c.a = c.b then 1 else 0) ∧ Completes .cne s (if c.a = c.b then 0 else 1) ∧
    Completes .clt s (if c.a.toInt < c.b.toInt then 1 else 0) ∧ Completes .cle s (if c.a.toInt ≤ c.b.toInt then 1 else 0) ∧
    Completes .cgt s (if c.b.toInt < c.a.toInt then 1 else 0) ∧ Completes .cge s (if c.b.toInt ≤ c.a.toInt then 1 else 0)

/-- R117: how FLOOR, CEIL and ROUND of one word stand to each other. -/
def Obligations.FloorCeilRoundLaws : Prop :=
  ∀ (F : Bits5) (s : State) (c : Command) (rest : List Command),
    s.queue = c :: rest → 1 ≤ F.toNat → F.toNat ≤ 30 →
    let fr := c.a.toNat % 2 ^ F.toNat
    let half := 2 ^ (F.toNat - 1)
    ∃ f u r : Word, Completes (.floor F) s f ∧ Completes (.ceil F) s u ∧ Completes (.round F) s r ∧
      (f.toNat % 2 ^ F.toNat = 0 ∧ u.toNat % 2 ^ F.toNat = 0 ∧ r.toNat % 2 ^ F.toNat = 0) ∧
      (fr = 0 → f = c.a ∧ u = c.a ∧ r = c.a) ∧
      (fr ≠ 0 → 0 < c.a.toInt → r = if half ≤ fr then u else f) ∧
      (fr ≠ 0 → c.a.toInt < 0 → r = if fr ≤ half then f else u) ∧
      (⌈(c.a.toInt : ℚ) / 2 ^ F.toNat⌉ * 2 ^ F.toNat < 2 ^ 31 →
        f.toInt ≤ c.a.toInt ∧ c.a.toInt ≤ u.toInt ∧
        u.toInt - f.toInt = if fr = 0 then 0 else 2 ^ F.toNat)

/-- R118: the sign times the absolute value is the word, for every word but the most negative. -/
def Obligations.SignTimesAbsIsTheWord : Prop :=
  ∀ (F : Bits5) (s : State) (c : Command) (rest : List Command),
    s.queue = c :: rest → 1 ≤ F.toNat → F.toNat ≤ 30 → c.a ≠ 0x80000000 →
    ∃ g m : Word, Completes (.sign F) s g ∧ Completes .abs s m ∧ m.getLsbD 31 = false ∧
      ∀ (s' : State) (c' : Command) (rest' : List Command),
        s'.queue = c' :: rest' → c'.a = g → c'.b = m → Completes (.mulH F) s' c.a

/-! ### All commands: faults, frames, purity (R9, R12, R22, R27, R59, R130 to R136) -/

/-- R59: a command answers `ILLEGAL` exactly when a count its format checks is not 1 to 30. -/
def Obligations.IllegalExactlyOnCountsOutOfRange : Prop :=
  ∀ (i : Instr) (s : State) (c : Command) (rest : List Command), s.queue = c :: rest →
    let out (F : Bits5) := ¬ (1 ≤ F.toNat ∧ F.toNat ≤ 30)
    let fails := match i with
      | .mulH F | .mulM F | .mulL F | .divH F | .divM F | .divL F => out F
      | .cvt F B => out F ∨ out B
      | .fromInt F | .toInt F | .sign F | .floor F | .ceil F | .round F => out F
      | .shl _ | .shr _ | .add | .sub | .neg | .abs | .ceq | .cne | .clt | .cle | .cgt | .cge => False
    (fails → AnswersFault i s 0b10) ∧ (¬ fails → ∃ t, exec i s = .next t ∧ t.rspStatus ≠ 0b10)

/-- R9 and R134: a legal command that is not a divide by zero completes with status `OK`, whatever overflows. -/
def Obligations.LegalCommandsCompleteWithOk : Prop :=
  ∀ (i : Instr) (s : State) (c : Command) (rest : List Command), s.queue = c :: rest → i.wellFormed = true →
    (c.b ≠ 0 ∨ ∀ F : Bits5, i ≠ .divH F ∧ i ≠ .divM F ∧ i ≠ .divL F) →
    ∃ v : Word, Completes i s v

/-- R135, R22: the frame of every command. Answering it drives the response ports and changes nothing else but the counter free
values are drawn from, which moves only on a fault. -/
def Obligations.CommandsChangeOnlyTheResponsePorts : Prop :=
  ∀ (i : Instr) (s t : State), exec i s = .next t →
    t.rspValid = true ∧ t.queue = s.queue ∧ t.cmdReady = s.cmdReady ∧ t.host = s.host ∧ t.rspWait = s.rspWait ∧
    t.held = s.held ∧ t.epoch = s.epoch ∧ (t.rspStatus = 0b00 → t.draws = s.draws) ∧
    (t.rspStatus ≠ 0b00 → t.draws = s.draws + 1)

/-- The model's choice (entry 11), on R31: with an empty queue `Deliver` is not enabled, so a meaning stops by name. -/
def Obligations.EmptyQueueStopsEveryCommand : Prop :=
  ∀ (i : Instr) (s : State), s.queue = [] → exec i s = .fault .noCommandInFlight

/-- R12: the status of a command, and its result where the status is `OK`, are a function of its three words alone. -/
def Obligations.ResponseDependsOnTheCommandAlone : Prop :=
  ∀ (s₁ s₂ : State) (c : Command), s₁.due = some c → s₂.due = some c →
    ∃ t₁ t₂, s₁.issue = .next t₁ ∧ s₂.issue = .next t₂ ∧ t₁.rspStatus = t₂.rspStatus ∧
      (t₁.rspStatus = 0b00 → t₁.rspResult = t₂.rspResult)

/-- R27: the response of a one-operand command does not depend on `b`. -/
def Obligations.OneOperandCommandsIgnoreB : Prop :=
  ∀ (i : Instr) (s : State) (c : Command) (rest : List Command) (b' : Word), s.queue = c :: rest →
    (match i with
      | .cvt _ _ | .fromInt _ | .toInt _ | .neg | .shl _ | .shr _ | .abs | .sign _ | .floor _ | .ceil _ | .round _ => True
      | .mulH _ | .mulM _ | .mulL _ | .divH _ | .divM _ | .divL _ | .add | .sub | .ceq | .cne | .clt | .cle | .cgt
      | .cge => False) →
    ∃ t, exec i s = .next t ∧
      exec i { s with queue := ⟨c.word, c.a, b'⟩ :: rest } = .next { t with queue := ⟨c.word, c.a, b'⟩ :: rest }

/-- R28: the reserved status `0b11` is never presented: no command and no step brings it about. -/
def Obligations.ReservedStatusIsNeverPresented : Prop :=
  (∀ (i : Instr) (s t : State), exec i s = .next t → t.rspStatus ≠ 0b11) ∧
  (∀ s t : State, step s = .next t → (s.rspValid = true → s.rspStatus ≠ 0b11) → t.rspValid = true → t.rspStatus ≠ 0b11)

/-! ### The handshake, reset and order (R25 to R32, R43, R46, R150 to R156) -/

/-- How the model's step is built, which is the model's choice and no rule of the spec: one step is one rising edge followed by the
presentation of the command that is due (entry 1, DESIGN CHOICE), `due` waits for the free delay of the queue's head (entry 7,
DESIGN CHOICE), and the edge uses up one element of the model's list of pins (entry 2, DESIGN CHOICE). From the spec is what happens to
the command that is due, as R31's `Exec` has it: `exec` of the command its word decodes to, or the illegal command's answer where no
row matches. Where none is due the edge is the whole step. -/
def Obligations.StepRunsTheDecodedCommand : Prop :=
  ∀ s : State,
    s.edge.host = s.host.tail ∧
    (s.edge.due = none → step s = .next s.edge) ∧
    (∀ (c : Command) (i : Instr), s.edge.due = some c → decode c.word = .ok i → step s = exec i s.edge) ∧
    (∀ (c : Command) (e : Reject), s.edge.due = some c → decode c.word = .error e →
      step s = .next (s.edge.takeFault .illegalCommand))

/-- R150, R151, R32: with `rst = 1` the queue becomes empty, both handshake outputs become 0, and nothing is accepted or
delivered. -/
def Obligations.ResetEmptiesTheBlock : Prop :=
  ∀ s : State, (∃ p ps, s.host = p :: ps ∧ p.rst = true) →
    s.acceptedNow = [] ∧ s.deliveredNow = [] ∧
    ∃ t, step s = .next t ∧ t.queue = [] ∧ t.rspValid = false ∧ t.cmdReady = false

/-- R32: what the state right after reset is, as far as the spec gives it. -/
def Obligations.ResetStateOfTheSpec : Prop :=
  State.reset.queue = [] ∧ State.reset.rspValid = false ∧ State.reset.cmdReady = false

/-- R25, R29, R30: without reset, a step takes the head off the queue exactly when `rsp_valid` and `rsp_ready` are 1, and appends the
command on the pins exactly when `cmd_valid` and `cmd_ready` are 1. -/
def Obligations.QueueFollowsTheHandshake : Prop :=
  ∀ (s : State) (p : Pins) (ps : List Pins), s.host = p :: ps → p.rst = false →
    ∃ t, step s = .next t ∧ t.host = ps ∧
      t.queue = (if s.rspValid = true ∧ p.rspReady = true then s.queue.tail else s.queue) ++
        (if p.cmdValid = true ∧ s.cmdReady = true then [p.command] else [])

/-- R30: a response presented and not taken is held: `rsp_valid`, `rsp_result` and `rsp_status` stay as they are. -/
def Obligations.PresentedResponseIsHeld : Prop :=
  ∀ (s : State) (p : Pins) (ps : List Pins), s.host = p :: ps → p.rst = false → p.rspReady = false → s.rspValid = true →
    ∃ t, step s = .next t ∧ t.rspValid = true ∧ t.response = s.response ∧
      (∀ c rest, s.queue = c :: rest → ∃ rest', t.queue = c :: rest')

/-- On R43 and R29: where a command is not accepted, since `rst = 1`, `cmd_valid = 0` or `cmd_ready = 0`, the step does not depend on
its three words; and where `rst = 1` or `cmd_ready = 0`, whether `cmd_valid` is 1 makes no difference to the step but in the counter
`held`. That counter is the model's own (entry 6, DESIGN CHOICE): it bounds how long `cmd_ready` may stay low. -/
def Obligations.UnacceptedCommandHasNoEffect : Prop :=
  (∀ (s : State) (p : Pins) (ps : List Pins) (c : Command), s.host = p :: ps →
    (p.rst = true ∨ p.cmdValid = false ∨ s.cmdReady = false) →
    step { s with host := { p with command := c } :: ps } = step s) ∧
  (∀ (s : State) (p : Pins) (ps : List Pins) (c : Command) (v : Bool), s.host = p :: ps → (p.rst = true ∨ s.cmdReady = false) →
    ∃ (t : State) (h : ℕ), step s = .next t ∧
      step { s with host := { p with cmdValid := v, command := c } :: ps } = .next { t with held := h })

/-- R156: no step stops, from any state whatever. -/
def Obligations.NoCommandHangsTheBlock : Prop :=
  ∀ s : State, ∃ t, step s = .next t

/-- R25, R29, R30: the invariant of the block holds after reset. -/
def Obligations.InvHoldsAtReset : Prop :=
  State.reset.Inv

/-- R25, R29, R30: every step keeps the invariant: at most `DEPTH` commands, `cmd_ready = 1` only with room, and a presented response
is `Exec` of the head. -/
def Obligations.StepKeepsInv : Prop :=
  ∀ s t : State, s.Inv → step s = .next t → t.Inv

/-- R46: over any run without reset, the responses delivered answer, in order and one for one, the first of the commands in flight and
then accepted; the others are still in flight, in order. -/
def Obligations.ResponsesFollowTheOrderOfAcceptance : Prop :=
  ∀ (n : ℕ) (s : State), s.Inv → s.unreset n →
    ∃ (r : Trace) (answered : List Command), trace n s = some r ∧
      s.queue ++ r.accepted = answered ++ r.final.queue ∧ List.Forall₂ Answers answered r.delivered

/-- R30, R156: without reset, the head of the queue has its response presented within `rspWait + 1` steps, and it is still the head.
The bound is the model's counter of the free delay (entry 7); that there is one is R30's "eventually". -/
def Obligations.EveryHeadIsAnswered : Prop :=
  ∀ (s : State) (c : Command) (rest : List Command), s.queue = c :: rest → s.rspValid = false → s.unreset (s.rspWait + 1) →
    ∃ (k : ℕ) (t : State), 1 ≤ k ∧ k ≤ s.rspWait + 1 ∧ core.run k s = .next t ∧ t.rspValid = true ∧
      (∃ rest', t.queue = c :: rest') ∧ Answers c t.response

/-- R29: a host that holds its command valid and keeps taking responses has the command accepted after finitely many edges. -/
def Obligations.HeldCommandIsAccepted : Prop :=
  ∀ (s : State) (c : Command), s.Inv →
    ∃ n : ℕ, ∀ later : List Pins,
      ∃ (k : ℕ) (t : State), k < n ∧
        core.run k { s with host := List.replicate n ⟨false, true, c, true⟩ ++ later } = .next t ∧ t.acceptedNow = [c]

/-! ### The host's notations (R64, R65) -/

/-- R64: the example lines of the assembler syntax. -/
def Obligations.AssemblySyntaxExamples : Prop :=
  assemblyLine (.mulH 16) 0x00018000 0x00024000 = "MUL.H q16, 0x00018000, 0x00024000" ∧
  assemblyLine (.cvt 8 16) 0x00000101 0 = "CVT q8, q16, 0x00000101" ∧
  assemblyLine (.round 16) 0x00028000 0 = "ROUND q16, 0x00028000" ∧
  assemblyLine (.shr 4) 0xFFFFFFFF 0 = "SHR #4, 0xFFFFFFFF" ∧
  assemblyLine .clt 0xFFFF0000 0 = "CLT 0xFFFF0000, 0x00000000" ∧
  assemblyLine .abs 0xFFFB0000 0 = "ABS 0xFFFB0000"

/-- R65: a named result is the operand of a later line, and a name whose line faulted is an error where it is used. -/
def Obligations.ListingNamesAreResults : Prop :=
  ∀ (k : ℕ) (l m : ListingLine) (a b : Word), l.name = some k → l.a = .literal a → l.b = .literal b → m.a = .named k →
    m.b = .literal 0 →
    (∀ v, execReply ⟨l.word, a, b⟩ = .value v →
      runListing [] [l, m] = some [.value v, execReply ⟨m.word, v, 0⟩]) ∧
    (∀ f, execReply ⟨l.word, a, b⟩ = .raises f → runListing [] [l, m] = none)
end

