-- ==== Sys2Proof/Laws/Operands.lean ====
section
/-!
SUPPORT. The primitives of the spec's notation in terms of core integer and bit-vector operations.
-/

namespace Sys2Proof.Machine

@[simp] theorem pow2_eq (n : Nat) : pow2 n = (2 : Int) ^ n := by simp [pow2]

theorem pow2_pos (n : Nat) : 0 < pow2 n := by rw [pow2_eq]; positivity

/-- The arithmetic shift is integer division by a power of two, rounded down. -/
theorem sra_eq_ediv (z : Int) (n : Nat) : sra z n = z / 2 ^ n := by
  rw [sra, Int.fdiv_eq_ediv_of_nonneg _ (pow2_pos n).le, pow2_eq]

theorem trem_eq_tmod (x y : Int) : trem x y = x.tmod y := by
  have := Int.tmod_add_mul_tdiv x y
  simp only [trem, tdiv]; omega

theorem s32_bounds (w : Word) : -(2 ^ 31) ≤ s32 w ∧ s32 w < 2 ^ 31 :=
  ⟨by have := BitVec.le_toInt w; simpa [s32] using this, by have := BitVec.toInt_lt (x := w); simpa [s32] using this⟩

@[simp] theorem wrap32_s32 (w : Word) : wrap32 (s32 w) = w := BitVec.ofInt_toInt

/-- The signed reading of a wrapped integer is its balanced remainder modulo 2^32. -/
theorem s32_wrap32 (z : Int) : s32 (wrap32 z) = z.bmod (2 ^ 32) := BitVec.toInt_ofInt ..

/-- A word holds an integer of its range exactly. -/
theorem s32_wrap32_of_fits {z : Int} (h : -(2 ^ 31) ≤ z) (h' : z ≤ 2 ^ 31 - 1) : s32 (wrap32 z) = z := by
  rw [s32_wrap32, Int.bmod_eq_of_le (by norm_num; omega) (by norm_num; omega)]

/-- Two integers that agree modulo 2^32 wrap to one word. -/
theorem wrap32_congr {x y : Int} (h : x % 2 ^ 32 = y % 2 ^ 32) : wrap32 x = wrap32 y :=
  BitVec.eq_of_toInt_eq (by
    simp only [wrap32, BitVec.toInt_ofInt]
    rw [← Int.emod_bmod (x := x), ← Int.emod_bmod (x := y)]
    norm_num at h ⊢
    rw [h])

theorem wrap32_add (x y : Int) : wrap32 (x + y) = wrap32 x + wrap32 y := BitVec.ofInt_add ..

theorem wrap32_neg (x : Int) : wrap32 (-x) = -wrap32 x := BitVec.ofInt_neg

theorem wrap32_mul (x y : Int) : wrap32 (x * y) = wrap32 x * wrap32 y := BitVec.ofInt_mul ..

@[simp] theorem wrap32_natCast (n : Nat) : wrap32 (n : Int) = BitVec.ofNat 32 n := BitVec.ofInt_natCast ..

/-- The sign bit is set exactly on negative words (R7). -/
theorem signBit_iff (w : Word) : signBit w = true ↔ s32 w < 0 := by
  rw [signBit, s32, BitVec.toInt_neg_iff, BitVec.getLsbD, Nat.testBit_eq_decide_div_mod_eq]
  have := w.isLt
  simp only [decide_eq_true_eq]
  omega

/-- `mag32` is the absolute value of the signed reading, also of `0x80000000` (decision D9). -/
theorem mag32_eq_natAbs (w : Word) : mag32 w = (s32 w).natAbs := by
  have hs := signBit_iff w
  have hw := w.isLt
  have ht : s32 w = if 2 * w.toNat < 2 ^ 32 then (w.toNat : Int) else w.toNat - (2 ^ 32 : Nat) := BitVec.toInt_eq_toNat_cond w
  unfold mag32 u32
  split at ht <;> split <;> simp_all <;> omega

theorem and_fractionMask (x F : Nat) : x &&& fractionMask F = x % 2 ^ F := Nat.and_two_pow_sub_one_eq_mod x F

/-- Reapplying the sign is the negation of the word. -/
theorem reapplySign_eq (neg : Bool) (m : Word) : reapplySign neg m = if neg then -m else m := by
  simp [reapplySign, u32, wrap32_neg]

@[simp] theorem countInRange_iff (F : Bits5) : countInRange F = true ↔ 1 ≤ F.toNat ∧ F.toNat ≤ 30 := by
  simp [countInRange]

@[simp] theorem legalCount_eq (F : Bits5) : legalCount F = countInRange F := rfl

end Sys2Proof.Machine
end

