-- ==== Sys2Proof/Laws/State.lean ====
section
/-!
SUPPORT. One lemma per field per update of the state, so that no later proof unfolds a record update.
-/

namespace Sys2Proof.Machine

variable (s : State) (v : Word) (f : BlockFault) (c : Command)

/-! ### `present` -/

@[simp] theorem State.present_queue : (s.present v).queue = s.queue := rfl
@[simp] theorem State.present_cmdReady : (s.present v).cmdReady = s.cmdReady := rfl
@[simp] theorem State.present_rspValid : (s.present v).rspValid = true := rfl
@[simp] theorem State.present_rspResult : (s.present v).rspResult = v := rfl
@[simp] theorem State.present_rspStatus : (s.present v).rspStatus = 0b00 := rfl
@[simp] theorem State.present_host : (s.present v).host = s.host := rfl
@[simp] theorem State.present_rspWait : (s.present v).rspWait = s.rspWait := rfl
@[simp] theorem State.present_held : (s.present v).held = s.held := rfl
@[simp] theorem State.present_epoch : (s.present v).epoch = s.epoch := rfl
@[simp] theorem State.present_draws : (s.present v).draws = s.draws := rfl

/-! ### `takeFault` -/

@[simp] theorem State.takeFault_queue : (s.takeFault f).queue = s.queue := rfl
@[simp] theorem State.takeFault_cmdReady : (s.takeFault f).cmdReady = s.cmdReady := rfl
@[simp] theorem State.takeFault_rspValid : (s.takeFault f).rspValid = true := rfl
@[simp] theorem State.takeFault_rspStatus : (s.takeFault f).rspStatus = f.status.code := rfl
@[simp] theorem State.takeFault_host : (s.takeFault f).host = s.host := rfl
@[simp] theorem State.takeFault_rspWait : (s.takeFault f).rspWait = s.rspWait := rfl
@[simp] theorem State.takeFault_held : (s.takeFault f).held = s.held := rfl
@[simp] theorem State.takeFault_epoch : (s.takeFault f).epoch = s.epoch := rfl
@[simp] theorem State.takeFault_draws : (s.takeFault f).draws = s.draws + 1 := rfl

/-! ### `resetEdge` -/

@[simp] theorem State.resetEdge_queue : s.resetEdge.queue = [] := rfl
@[simp] theorem State.resetEdge_cmdReady : s.resetEdge.cmdReady = false := rfl
@[simp] theorem State.resetEdge_rspValid : s.resetEdge.rspValid = false := rfl
@[simp] theorem State.resetEdge_host : s.resetEdge.host = s.host.tail := rfl
@[simp] theorem State.resetEdge_rspWait : s.resetEdge.rspWait = 0 := rfl
@[simp] theorem State.resetEdge_held : s.resetEdge.held = 0 := rfl
@[simp] theorem State.resetEdge_epoch : s.resetEdge.epoch = s.epoch + 1 := rfl
@[simp] theorem State.resetEdge_draws : s.resetEdge.draws = s.draws + 1 := rfl

/-! ### `runEdge` -/

@[simp] theorem State.runEdge_queue : s.runEdge.queue = s.queueAfter := rfl
@[simp] theorem State.runEdge_cmdReady : s.runEdge.cmdReady = (s.hasRoom && !s.holdsBack) := rfl
@[simp] theorem State.runEdge_rspValid : s.runEdge.rspValid = (s.rspValid && !s.delivers) := rfl
@[simp] theorem State.runEdge_host : s.runEdge.host = s.host.tail := rfl
@[simp] theorem State.runEdge_rspWait : s.runEdge.rspWait = s.waitAfter := rfl
@[simp] theorem State.runEdge_held :
    s.runEdge.held = if s.holdsBack && s.pins.cmdValid then s.heldBefore + 1 else s.heldBefore := rfl
@[simp] theorem State.runEdge_epoch : s.runEdge.epoch = s.epochAfter := rfl
@[simp] theorem State.runEdge_draws : s.runEdge.draws = s.draws + 1 := rfl

/-- A response that is presented and not taken stands unchanged after the edge. -/
theorem State.runEdge_response (hv : s.rspValid = true) (hd : s.delivers = false) : s.runEdge.response = s.response := by
  simp [State.response, State.runEdge, hv, hd]

/-! ### `withHead` -/

@[simp] theorem State.withHead_queue : (s.withHead c).queue = c :: s.queue.tail := rfl
@[simp] theorem State.withHead_cmdReady : (s.withHead c).cmdReady = s.cmdReady := rfl
@[simp] theorem State.withHead_rspValid : (s.withHead c).rspValid = false := rfl
@[simp] theorem State.withHead_rspResult : (s.withHead c).rspResult = s.rspResult := rfl
@[simp] theorem State.withHead_rspStatus : (s.withHead c).rspStatus = s.rspStatus := rfl
@[simp] theorem State.withHead_host : (s.withHead c).host = [] := rfl
@[simp] theorem State.withHead_rspWait : (s.withHead c).rspWait = 0 := rfl
@[simp] theorem State.withHead_held : (s.withHead c).held = s.held := rfl
@[simp] theorem State.withHead_epoch : (s.withHead c).epoch = s.epoch := rfl
@[simp] theorem State.withHead_draws : (s.withHead c).draws = s.draws := rfl

end Sys2Proof.Machine
end

