-- ==== Sys2Proof/Laws/Ops.lean ====
section
/-!
SUPPORT. What each shared operation can do, said once: answering, the checks before a rule, the edge, the issue of a command.
-/

namespace Sys2Proof.Machine

/-! ### Answering -/

theorem State.answer_cons {s : State} {c : Command} {rest : List Command} (h : s.queue = c :: rest)
    (rule : Word → Word → Reply) : s.answer rule = .next (s.respond (rule c.a c.b)) := by
  simp [State.answer, h]

theorem State.answer_nil {s : State} (h : s.queue = []) (rule : Word → Word → Reply) :
    s.answer rule = .fault .noCommandInFlight := by
  simp [State.answer, h]

/-- An answer that goes on: there was a head, and its rule's reply was presented. -/
theorem State.answer_next {s t : State} {rule : Word → Word → Reply} (h : s.answer rule = .next t) :
    ∃ c rest, s.queue = c :: rest ∧ t = s.respond (rule c.a c.b) := by
  cases hq : s.queue with
  | nil => simp [State.answer_nil hq] at h
  | cons c rest => exact ⟨c, rest, rfl, by simpa [State.answer_cons hq] using h.symm⟩

@[simp] theorem checkCount_legal {F : Bits5} (h : countInRange F = true) (r : Reply) : checkCount F r = r := by
  simp [checkCount, h]

@[simp] theorem checkCount_illegal {F : Bits5} (h : countInRange F = false) (r : Reply) :
    checkCount F r = .raises .illegalCommand := by
  simp [checkCount, h]

@[simp] theorem checkDivisor_zero (r : Reply) : checkDivisor 0 r = .raises .divideByZero := rfl

theorem checkDivisor_nonzero {b : Word} (h : b ≠ 0) (r : Reply) : checkDivisor b r = r := by
  rw [checkDivisor, if_neg h]

/-- Every meaning answers the head of the queue by a rule that reads the two operand words and nothing else of the state. -/
theorem exec_is_an_answer (i : Instr) : ∃ rule : Word → Word → Reply, ∀ s : State, exec i s = s.answer rule := by
  cases i <;>
    simp only [exec, execMulH, execMulM, execMulL, execDivH, execDivM, execDivL, execCvt, execFromInt, execToInt, execAdd, execSub,
      execNeg, execShl, execShr, execAbs, execSign, execFloor, execCeil, execRound, execCeq, execCne, execClt, execCle, execCgt,
      execCge] <;>
    exact ⟨_, fun _ => rfl⟩

/-! ### The edge -/

theorem State.edge_reset {s : State} (h : s.pins.rst = true) : s.edge = s.resetEdge := by
  simp [State.edge, h]

theorem State.edge_run {s : State} (h : s.pins.rst = false) : s.edge = s.runEdge := by
  simp [State.edge, h]

theorem State.pins_cons {s : State} {p : Pins} {ps : List Pins} (h : s.host = p :: ps) : s.pins = p := by
  simp [State.pins, h]

/-- A command that is due is the head of the queue, no response is being presented and the delay is over. -/
theorem State.due_eq_some {s : State} {c : Command} :
    s.due = some c ↔ s.rspValid = false ∧ s.rspWait = 0 ∧ ∃ rest, s.queue = c :: rest := by
  cases hv : s.rspValid <;> by_cases hw : s.rspWait = 0 <;> simp [State.due, hv, hw, List.head?_eq_some_iff]

theorem State.due_eq_none {s : State} :
    s.due = none ↔ s.rspValid = true ∨ s.rspWait ≠ 0 ∨ s.queue = [] := by
  cases hv : s.rspValid <;> by_cases hw : s.rspWait = 0 <;> simp [State.due, hv, hw]

/-! ### Issue -/

theorem State.issue_of_none {s : State} (h : s.due = none) : s.issue = .next s := by
  simp [State.issue, h]

/-- The reply to a due command is a function of the command: every state in which it is due presents the same reply. -/
theorem State.issue_of_due (c : Command) : ∃ r : Reply, ∀ s : State, s.due = some c → s.issue = .next (s.respond r) := by
  cases hd : decode c.word with
  | error e => exact ⟨.raises .illegalCommand, fun s h => by simp [State.issue, h, hd, State.respond]⟩
  | ok i =>
    obtain ⟨rule, hrule⟩ := exec_is_an_answer i
    refine ⟨rule c.a c.b, fun s h => ?_⟩
    obtain ⟨-, -, rest, hq⟩ := State.due_eq_some.1 h
    simp [State.issue, h, hd, hrule, State.answer_cons hq]

@[simp] theorem State.respond_queue (s : State) (r : Reply) : (s.respond r).queue = s.queue := by cases r <;> rfl
@[simp] theorem State.respond_cmdReady (s : State) (r : Reply) : (s.respond r).cmdReady = s.cmdReady := by cases r <;> rfl
@[simp] theorem State.respond_rspValid (s : State) (r : Reply) : (s.respond r).rspValid = true := by cases r <;> rfl
@[simp] theorem State.respond_host (s : State) (r : Reply) : (s.respond r).host = s.host := by cases r <;> rfl

/-- The ports say the reply that was presented. -/
@[simp] theorem State.replyOnPorts_respond (s : State) (r : Reply) : (s.respond r).replyOnPorts = r := by
  cases r with
  | value v => rfl
  | raises f => cases f <;> rfl

/-- A due command is answered by `Exec` of the command (R30, R31). -/
theorem State.issue_of_due_reply {s : State} {c : Command} (h : s.due = some c) :
    s.issue = .next (s.respond (execReply c)) := by
  obtain ⟨r, hr⟩ := State.issue_of_due c
  have halone : (State.alone c).issue = .next ((State.alone c).respond r) := hr _ rfl
  simp [hr s h, execReply, halone]

/-- An issue that goes on: nothing was due, or the head was answered by its `Exec`. -/
theorem State.issue_next {s t : State} (h : s.issue = .next t) :
    t = s ∨ ∃ c rest, s.rspValid = false ∧ s.queue = c :: rest ∧ t = s.respond (execReply c) := by
  cases hd : s.due with
  | none => exact .inl (by simpa [State.issue_of_none hd] using h.symm)
  | some c =>
    obtain ⟨hv, -, rest, hq⟩ := State.due_eq_some.1 hd
    exact .inr ⟨c, rest, hv, hq, by simpa [State.issue_of_due_reply hd] using h.symm⟩

/-! ### Placing a command -/

/-- The placed command is the one the next step issues. -/
theorem State.withHead_due (s : State) (c : Command) : (s.withHead c).edge.due = some c := by
  simp [State.due_eq_some, State.edge, State.pins, Pins.idle, State.delivers, State.waitAfter, State.queueAfter,
    State.accepts, State.undelivered, State.headIsNew]

/-- Where it decodes, the next step is its meaning. -/
theorem State.step_withHead {s : State} {c : Command} {i : Instr} (h : decode c.word = .ok i) :
    step (s.withHead c) = exec i (s.withHead c).edge := by
  simp [step, State.issue, State.withHead_due, h]

end Sys2Proof.Machine
end

