-- ==== Sys2Proof/Laws/PerInstr.lean ====
section
/-!
SUPPORT. The families of lemmas with one lemma per command. `FixedBits`: the encoded word of a command holds, under the mask of its
row, the match value of its row (R57, R58).
-/

namespace Sys2Proof.Laws

/-- The format of each command (R57). -/
def formatOf : Instr → Format
  | .mulH _ | .mulM _ | .mulL _ | .divH _ | .divM _ | .divL _ => .S
  | .cvt _ _ => .C
  | .fromInt _ | .toInt _ | .sign _ | .floor _ | .ceil _ | .round _ => .T
  | .shl _ | .shr _ => .H
  | .add | .sub | .neg | .abs | .ceq | .cne | .clt | .cle | .cgt | .cge => .N

/-- The match value of each command's row, from R58. -/
def matchOf : Instr → Word
  | .mulH _ => 0x00000001
  | .mulM _ => 0x00000021
  | .mulL _ => 0x00000041
  | .divH _ => 0x00000002
  | .divM _ => 0x00000022
  | .divL _ => 0x00000042
  | .cvt _ _ => 0x00000003
  | .fromInt _ => 0x00000004
  | .toInt _ => 0x00000005
  | .add => 0x00000008
  | .sub => 0x00000009
  | .neg => 0x0000000A
  | .shl _ => 0x0000000B
  | .shr _ => 0x0000000C
  | .abs => 0x00000010
  | .sign _ => 0x00000011
  | .floor _ => 0x00000012
  | .ceil _ => 0x00000013
  | .round _ => 0x00000014
  | .ceq => 0x00000018
  | .cne => 0x00000019
  | .clt => 0x0000001A
  | .cle => 0x0000001B
  | .cgt => 0x0000001C
  | .cge => 0x0000001D

/-- The encoded word has the fixed bits of its row. -/
def FixedBits.Statement (i : Instr) : Prop := encode i &&& (formatOf i).mask = matchOf i

namespace FixedBits

theorem mulH (F : Bits5) : Statement (.mulH F) := by unfold Statement; revert F; decide
theorem mulM (F : Bits5) : Statement (.mulM F) := by unfold Statement; revert F; decide
theorem mulL (F : Bits5) : Statement (.mulL F) := by unfold Statement; revert F; decide
theorem divH (F : Bits5) : Statement (.divH F) := by unfold Statement; revert F; decide
theorem divM (F : Bits5) : Statement (.divM F) := by unfold Statement; revert F; decide
theorem divL (F : Bits5) : Statement (.divL F) := by unfold Statement; revert F; decide
theorem cvt (F B : Bits5) : Statement (.cvt F B) := by unfold Statement; revert F B; decide
theorem fromInt (F : Bits5) : Statement (.fromInt F) := by unfold Statement; revert F; decide
theorem toInt (F : Bits5) : Statement (.toInt F) := by unfold Statement; revert F; decide
theorem add : Statement .add := by unfold Statement; decide
theorem sub : Statement .sub := by unfold Statement; decide
theorem neg : Statement .neg := by unfold Statement; decide
theorem shl (sh : Bits5) : Statement (.shl sh) := by unfold Statement; revert sh; decide
theorem shr (sh : Bits5) : Statement (.shr sh) := by unfold Statement; revert sh; decide
theorem abs : Statement .abs := by unfold Statement; decide
theorem sign (F : Bits5) : Statement (.sign F) := by unfold Statement; revert F; decide
theorem floor (F : Bits5) : Statement (.floor F) := by unfold Statement; revert F; decide
theorem ceil (F : Bits5) : Statement (.ceil F) := by unfold Statement; revert F; decide
theorem round (F : Bits5) : Statement (.round F) := by unfold Statement; revert F; decide
theorem ceq : Statement .ceq := by unfold Statement; decide
theorem cne : Statement .cne := by unfold Statement; decide
theorem clt : Statement .clt := by unfold Statement; decide
theorem cle : Statement .cle := by unfold Statement; decide
theorem cgt : Statement .cgt := by unfold Statement; decide
theorem cge : Statement .cge := by unfold Statement; decide

end FixedBits

end Sys2Proof.Laws
end

