-- ==== Sys2Proof/Tests/Slice0.lean ====
section
/-!
SUPPORT. Tests: expected values are the spec's own (the rules' corner cases and `95_test_vectors.md`), each named where it stands.
Then, for every statement with hypotheses, a concrete state and operands that meet all of them together.
-/

namespace Sys2Proof.Tests

open Sys2Proof Sys2Proof.Machine

/-! ### Well-formedness: an ill-formed term for each check of R59 -/

theorem test_wellFormed_formatS : (Instr.mulH 0).wellFormed = false ∧ (Instr.mulM 31).wellFormed = false ∧
    (Instr.mulL 0).wellFormed = false ∧ (Instr.divH 31).wellFormed = false ∧ (Instr.divM 0).wellFormed = false ∧
    (Instr.divL 31).wellFormed = false := by decide
theorem test_wellFormed_formatC : (Instr.cvt 0 16).wellFormed = false ∧ (Instr.cvt 31 16).wellFormed = false ∧
    (Instr.cvt 16 0).wellFormed = false ∧ (Instr.cvt 16 31).wellFormed = false := by decide
theorem test_wellFormed_formatT : (Instr.fromInt 0).wellFormed = false ∧ (Instr.toInt 31).wellFormed = false ∧
    (Instr.sign 0).wellFormed = false ∧ (Instr.floor 31).wellFormed = false ∧ (Instr.ceil 0).wellFormed = false ∧
    (Instr.round 31).wellFormed = false := by decide
theorem test_wellFormed_edges : (Instr.mulH 1).wellFormed = true ∧ (Instr.cvt 30 1).wellFormed = true ∧
    (Instr.shl 31).wellFormed = true ∧ (Instr.shr 0).wellFormed = true := by decide

/-! ### Decoding: the words of `95_test_vectors.md` section 6, one for each constructor -/

theorem test_decode_multiply : decode 0x00001001 = .ok (.mulH 16) ∧ decode 0x00001021 = .ok (.mulM 16) ∧
    decode 0x00000841 = .ok (.mulL 8) := ⟨rfl, rfl, rfl⟩
theorem test_decode_divide : decode 0x00001002 = .ok (.divH 16) ∧ decode 0x00001E22 = .ok (.divM 30) ∧
    decode 0x00000842 = .ok (.divL 8) := ⟨rfl, rfl, rfl⟩
theorem test_decode_rescale : decode 0x00100803 = .ok (.cvt 8 16) ∧ decode 0x00011E03 = .ok (.cvt 30 1) ∧
    decode 0x00001004 = .ok (.fromInt 16) ∧ decode 0x00000105 = .ok (.toInt 1) := ⟨rfl, rfl, rfl, rfl⟩
theorem test_decode_arithmetic : decode 0x00000008 = .ok .add ∧ decode 0x00000009 = .ok .sub ∧ decode 0x0000000A = .ok .neg ∧
    decode 0x001F000B = .ok (.shl 31) ∧ decode 0x0000000C = .ok (.shr 0) := ⟨rfl, rfl, rfl, rfl, rfl⟩
theorem test_decode_utility : decode 0x00000010 = .ok .abs ∧ decode 0x00001011 = .ok (.sign 16) ∧
    decode 0x00001012 = .ok (.floor 16) ∧ decode 0x00000813 = .ok (.ceil 8) ∧ decode 0x00001E14 = .ok (.round 30) :=
  ⟨rfl, rfl, rfl, rfl, rfl⟩
theorem test_decode_comparisons : decode 0x00000018 = .ok .ceq ∧ decode 0x00000019 = .ok .cne ∧ decode 0x0000001A = .ok .clt ∧
    decode 0x0000001B = .ok .cle ∧ decode 0x0000001C = .ok .cgt ∧ decode 0x0000001D = .ok .cge :=
  ⟨rfl, rfl, rfl, rfl, rfl, rfl⟩

/-- Section 6, causes (a): every `op` value that selects no command. -/
theorem test_reject_op : ([0x00000000, 0xFFFFFFFF, 0x00001006, 0x00000007, 0x0000000D, 0x0000000E, 0x0000000F, 0x00001015,
    0x00000016, 0x00000017, 0x0000001E, 0x0000001F] : List Word).all
    (fun w => rejectCause w == .noSuchOp && (decode w).toOption == none) = true := rfl
/-- Section 6, causes (b). -/
theorem test_reject_strategy : ([0x00001061, 0x00001062, 0x00000028, 0x00101023] : List Word).all
    (fun w => rejectCause w == .badStrategy && (decode w).toOption == none) = true := rfl
/-- Section 6, causes (c). -/
theorem test_reject_mustBeZero : ([0x00001081, 0x00003001, 0x00009001, 0x00201001, 0x80001001] : List Word).all
    (fun w => rejectCause w == .mustBeZero && (decode w).toOption == none) = true := rfl
/-- Section 6, causes (d). -/
theorem test_reject_unusedField : ([0x00011001, 0x00000108, 0x0001000A, 0x0004100C, 0x00011014] : List Word).all
    (fun w => rejectCause w == .unusedField && (decode w).toOption == none) = true := rfl
/-- Section 6, causes (e): the row matches and the check of R59 fails. -/
theorem test_illegal_count : ([0x00000001, 0x00001F01, 0x00000042, 0x00001F22, 0x00100003, 0x00001003, 0x001F0803, 0x00101F03,
    0x00000004, 0x00001F05, 0x00000011, 0x00000014] : List Word).all
    (fun w => !legalWord w && (decode w).toOption != none) = true := rfl

/-- R64: the example words, from the encoder. -/
theorem test_encode : encode (.mulH 16) = 0x00001001 ∧ encode (.cvt 8 16) = 0x00100803 ∧ encode (.round 16) = 0x00001014 ∧
    encode (.shr 4) = 0x0004000C ∧ encode .clt = 0x0000001A ∧ encode .abs = 0x00000010 := by decide

theorem test_decodeTableWord : decodeTableWord 32 0x00001E42 = some (.divL 30) ∧ decodeTableWord 32 0x00000028 = none :=
  ⟨rfl, rfl⟩

/-! ### Commands: at most two vectors each -/

/-- R71 corner case 1. -/
theorem test_mulH_negative_tie : execReply ⟨0x00001001, 0xFFFFFFFF, 0x00008000⟩ = .value 0 := by decide
/-- R71 corner case 2. -/
theorem test_mulH_wraps : execReply ⟨0x00001001, 0x7FFFFFFF, 0x7FFFFFFF⟩ = .value 0xFFFF0000 := by decide
/-- R72 corner case 3. -/
theorem test_mulM_negative_tie : execReply ⟨0x00001021, 0xFFFFFFFF, 0x00008000⟩ = .value 0xFFFFFFFF := by decide
/-- R72 corner case 2. -/
theorem test_mulM_fraction_product_wraps : execReply ⟨0x00001821, 0x00FFFFFF, 0x00FFFFFF⟩ = .value 0x000000FE := by decide
/-- R73 corner case 4. -/
theorem test_mulL_wrong_sign : execReply ⟨0x00001041, 0x0000FFFF, 0x0000FFFF⟩ = .value 0xFFFFFFFE := by decide
/-- R73 example. -/
theorem test_mulL_preset : execReply ⟨0x00000841, 0x00000300, 0x00000155⟩ = .value 0x000003FF := by decide
/-- R81 example. -/
theorem test_divH_rounds : execReply ⟨0x00001002, 0x00020000, 0x00030000⟩ = .value 0x0000AAAB := by decide
/-- R81 corner case 1. -/
theorem test_divH_negative_tie : execReply ⟨0x00000102, 0xFFFFFFFD, 0x00000004⟩ = .value 0xFFFFFFFE := by decide
/-- R82 corner case 3. -/
theorem test_divM_truncates_toward_zero : execReply ⟨0x00001022, 0xFFFE0000, 0x00030000⟩ = .value 0xFFFF5556 := by decide
/-- `95_test_vectors.md` section 3. -/
theorem test_divM_by_zero : execReply ⟨0x00000122, 0x80000000, 0x00000000⟩ = .raises .divideByZero := by decide
/-- `95_test_vectors.md` section 3, decision D11. -/
theorem test_divL_most_negative_by_minus_one : execReply ⟨0x00000842, 0x00800000, 0xFFFFFFFF⟩ = .value 0x80000000 := by decide
/-- R83 corner case 3. -/
theorem test_divL_shift_overflows : execReply ⟨0x00001042, 0x00070000, 0x00070000⟩ = .value 0 := by decide
/-- R91 corner case 2. -/
theorem test_cvt_narrowing_floors : execReply ⟨0x00100803, 0xFFFFFF01, 0x00000000⟩ = .value 0xFFFFFFFF := by decide
/-- R91 corner case 4. -/
theorem test_cvt_widening_overflows : execReply ⟨0x00081003, 0x00FFFFFF, 0x00000000⟩ = .value 0xFFFFFF00 := by decide
/-- R93 corner case 2. -/
theorem test_fromInt_overflows : execReply ⟨0x00001004, 0x00008000, 0x00000000⟩ = .value 0x80000000 := by decide
/-- `95_test_vectors.md` section 1. -/
theorem test_fromInt_negative : execReply ⟨0x00001004, 0xFFFFFFFB, 0x00000000⟩ = .value 0xFFFB0000 := by decide
/-- R94 corner case 2. -/
theorem test_toInt_floors : execReply ⟨0x00001005, 0xFFFE8000, 0x00000000⟩ = .value 0xFFFFFFFE := by decide
/-- R101 corner case. -/
theorem test_add_wraps : execReply ⟨0x00000008, 0x7FFFFFFF, 0x00000001⟩ = .value 0x80000000 := by decide
/-- R102 example. -/
theorem test_sub_order : execReply ⟨0x00000009, 0x00018000, 0x00024000⟩ = .value 0xFFFF4000 := by decide
/-- `95_test_vectors.md` section 5. -/
theorem test_neg_ignores_b : execReply ⟨0x0000000A, 0x00018000, 0xDEADBEEF⟩ = .value 0xFFFE8000 := by decide
/-- R104 corner case. -/
theorem test_shl_by_31 : execReply ⟨0x001F000B, 0xFFFFFFFF, 0x00000000⟩ = .value 0x80000000 := by decide
/-- R105 example. -/
theorem test_shr_is_arithmetic : execReply ⟨0x0001000C, 0xFFFE8000, 0x00000000⟩ = .value 0xFFFF4000 := by decide
/-- R105 corner case. -/
theorem test_shr_by_31 : execReply ⟨0x001F000C, 0x80000000, 0x00000000⟩ = .value 0xFFFFFFFF := by decide
/-- R106 corner case. -/
theorem test_abs_most_negative : execReply ⟨0x00000010, 0x80000000, 0x00000000⟩ = .value 0x80000000 := by decide
/-- R107 corner case. -/
theorem test_sign_of_zero : execReply ⟨0x00001011, 0x00000000, 0x00000000⟩ = .value 0x00010000 := by decide
/-- `95_test_vectors.md` section 5. -/
theorem test_sign_negative : execReply ⟨0x00001E11, 0xFFFFFFFF, 0x00000000⟩ = .value 0xC0000000 := by decide
/-- R108 example. -/
theorem test_floor_negative : execReply ⟨0x00001012, 0xFFFE8000, 0x00000000⟩ = .value 0xFFFE0000 := by decide
/-- R109 example. -/
theorem test_ceil_negative : execReply ⟨0x00001013, 0xFFFE8000, 0x00000000⟩ = .value 0xFFFF0000 := by decide
/-- R109 corner case. -/
theorem test_ceil_overflows : execReply ⟨0x00001013, 0x7FFFFFFF, 0x00000000⟩ = .value 0x80000000 := by decide
/-- R110 example. -/
theorem test_round_negative_tie : execReply ⟨0x00001014, 0xFFFD8000, 0x00000000⟩ = .value 0xFFFD0000 := by decide
/-- R110 corner case 4. -/
theorem test_round_past_negative_tie : execReply ⟨0x00001014, 0xFFFD8001, 0x00000000⟩ = .value 0xFFFE0000 := by decide
/-- R111 example. -/
theorem test_ceq_equal : execReply ⟨0x00000018, 0x00000155, 0x00000155⟩ = .value 1 := by decide
/-- R112 example. -/
theorem test_cne_different : execReply ⟨0x00000019, 0x00000000, 0xFFFFFFFF⟩ = .value 1 := by decide
/-- R113 corner case. -/
theorem test_clt_extremes : execReply ⟨0x0000001A, 0x80000000, 0x7FFFFFFF⟩ = .value 1 := by decide
/-- R114 example. -/
theorem test_cle_greater : execReply ⟨0x0000001B, 0x00010000, 0x0000FFFF⟩ = .value 0 := by decide
/-- R115 example. -/
theorem test_cgt_minus_one : execReply ⟨0x0000001C, 0x00000000, 0xFFFFFFFF⟩ = .value 1 := by decide
/-- R116 example. -/
theorem test_cge_equal : execReply ⟨0x0000001D, 0x80000000, 0x80000000⟩ = .value 1 := by decide
/-- `95_test_vectors.md` section 6, priority. -/
theorem test_illegal_before_divide_by_zero : execReply ⟨0x00000002, 0x00010000, 0x00000000⟩ = .raises .illegalCommand := by decide
/-- `95_test_vectors.md` section 6, priority. -/
theorem test_reserved_strategy_before_divide_by_zero : execReply ⟨0x00001062, 0x00010000, 0x00000000⟩ = .raises .illegalCommand := by decide

/-- R87, the worked schedule of `95_test_vectors.md` section 3, `N = 6` and `y = 4`: bits 2, 1, 0 (the higher ones are zero and leave 0). -/
theorem test_restoring : restoring 4 6 3 1 = (1, 0) ∧ restoring 4 6 3 2 = (3, 0) ∧ restoring 4 6 3 3 = (2, 1) := by decide

/-! ### The handshake: one edge each, as in program P5 of `95_test_vectors.md` -/

/-- A block that holds one command, just come to. -/
def holding (word a b : Word) : State := { State.reset with queue := [⟨word, a, b⟩] }

/-- `c1` of P5: `MUL.H q16` of 1.5 and 2.25. -/
def c1 : Command := ⟨0x00001001, 0x00018000, 0x00024000⟩

/-- `c2` of P5: `DIV.H q16`. -/
def c2 : Command := ⟨0x00001002, 0x00036000, 0x0000C000⟩

/-- P5 with `c1` presented and `c2` behind it, at an edge with the given pins. -/
def presenting (p : Pins) : State :=
  { State.reset with queue := [c1, c2], rspValid := true, rspResult := 0x00036000, host := [p] }

/-- P5 step 1: `Accept(c1)`. -/
theorem test_accept : (State.edge { State.reset with cmdReady := true, host := [⟨false, true, c1, false⟩] }).queue = [c1] := by
  decide
/-- R29: with `cmd_ready = 0` nothing is accepted. -/
theorem test_not_ready : (State.edge { State.reset with host := [⟨false, true, c1, false⟩] }).queue = [] := by decide
/-- P5 step 4: `Deliver` removes the head. -/
theorem test_deliver : (presenting ⟨false, false, c2, true⟩).edge.queue = [c2] := by decide
/-- R30: not taken, the response is held. -/
theorem test_hold : (presenting ⟨false, false, c2, false⟩).edge.queue = [c1, c2] ∧
    (presenting ⟨false, false, c2, false⟩).edge.rspValid = true ∧
    (presenting ⟨false, false, c2, false⟩).edge.rspResult = 0x00036000 := by decide
/-- P5 step 5 and R151: `Reset` empties the queue, and a response being presented is withdrawn. -/
theorem test_reset : (presenting ⟨true, true, c2, true⟩).edge.queue = [] ∧
    (presenting ⟨true, true, c2, true⟩).edge.rspValid = false ∧
    (presenting ⟨true, true, c2, true⟩).edge.cmdReady = false := by decide
/-- P5 step 4: the response of `c1`, from the first step after it is placed. -/
theorem test_step_presents : ∃ t, step (State.reset.withHead c1) = .next t ∧ t.rspValid = true ∧ t.rspResult = 0x00036000 ∧
    t.rspStatus = 0b00 := ⟨_, rfl, rfl, by decide, rfl⟩
/-- The step from a placed table word runs that command. -/
theorem test_withFetchWord : step (State.reset.withFetchWord 32 0x00000008) =
    exec .add (State.reset.withFetchWord 32 0x00000008).edge := rfl
/-- P3 line 5: an illegal word is answered, not stopped on. -/
theorem test_illegal_goes_on : ∃ t, step (State.reset.withFetchWord 32 0x00000028) = .next t ∧ t.rspStatus = 0b10 := ⟨_, rfl, rfl⟩

/-- P3 lines 1 and 2: the divisor is a named zero, and the name of the faulted line is an error where it is used. -/
theorem test_listing : runListing [] [⟨some 1, 0x00000009, .literal 0x00012345, .literal 0x00012345⟩,
      ⟨some 2, 0x00001022, .literal 0x00010000, .named 1⟩] = some [.value 0, .raises .divideByZero] ∧
    runListing [] [⟨some 2, 0x00001022, .literal 0x00010000, .literal 0⟩, ⟨none, 0x00000010, .named 2, .literal 0⟩] = none := by
  decide

/-! ### Witnesses: the hypotheses of each statement met together, at the edges of their ranges -/

/-- The hypotheses most statements on a command with a count share, at both ends of R6. -/
theorem witness_head_and_count : (holding 0x00000101 3 3).queue = ⟨0x00000101, 3, 3⟩ :: [] ∧
    (1 ≤ (1 : Bits5).toNat ∧ (1 : Bits5).toNat ≤ 30) ∧ (1 ≤ (30 : Bits5).toNat ∧ (30 : Bits5).toNat ≤ 30) := by decide

theorem witness_EncodeInvertsDecode : (decode 0x001F000B).toOption = some (.shl 31) := by decide
/-- The premise of each `Selects` clause whose mask leaves a field open, at the edge values of the field. -/
theorem witness_Selects_rows : (0x00001E01 : Word) &&& 0xFFFFE0FF = 0x00000001 ∧ (0x00000121 : Word) &&& 0xFFFFE0FF = 0x00000021 ∧
    (0x00001E41 : Word) &&& 0xFFFFE0FF = 0x00000041 ∧ (0x00000102 : Word) &&& 0xFFFFE0FF = 0x00000002 ∧
    (0x00001E22 : Word) &&& 0xFFFFE0FF = 0x00000022 ∧ (0x00000142 : Word) &&& 0xFFFFE0FF = 0x00000042 ∧
    (0x00011E03 : Word) &&& 0xFFE0E0FF = 0x00000003 ∧ (0x00000104 : Word) &&& 0xFFFFE0FF = 0x00000004 ∧
    (0x00001E05 : Word) &&& 0xFFFFE0FF = 0x00000005 ∧ (0x001F000B : Word) &&& 0xFFE0FFFF = 0x0000000B ∧
    (0x0001000C : Word) &&& 0xFFE0FFFF = 0x0000000C ∧ (0x00000111 : Word) &&& 0xFFFFE0FF = 0x00000011 ∧
    (0x00001E12 : Word) &&& 0xFFFFE0FF = 0x00000012 ∧ (0x00000113 : Word) &&& 0xFFFFE0FF = 0x00000013 ∧
    (0x00001E14 : Word) &&& 0xFFFFE0FF = 0x00000014 := by decide
/-- An illegal word due, and a legal one. -/
theorem witness_IllegalWordsAnswerIllegal : (holding 0x00001061 1 0).due = some ⟨0x00001061, 1, 0⟩ ∧ (holding 0x00001E14 1 0).due = some ⟨0x00001E14, 1, 0⟩ := by decide
theorem witness_MulHighIsTheBiasedProductShifted : (holding 0x00001E01 0x80000000 0x80000000).queue = ⟨0x00001E01, 0x80000000, 0x80000000⟩ :: [] ∧ (1 ≤ (30 : Bits5).toNat ∧ (30 : Bits5).toNat ≤ 30) := by decide
theorem witness_MulMidIsTheSplitProductOfMagnitudes : (holding 0x00001E21 0x80000000 0x7FFFFFFF).queue = ⟨0x00001E21, 0x80000000, 0x7FFFFFFF⟩ :: [] ∧ (1 ≤ (30 : Bits5).toNat ∧ (30 : Bits5).toNat ≤ 30) := by decide
theorem witness_MulLowShiftsTheLowProduct : (holding 0x00000141 0xFFFFFFFF 0x00008000).queue = ⟨0x00000141, 0xFFFFFFFF, 0x00008000⟩ :: [] ∧ (1 ≤ (1 : Bits5).toNat ∧ (1 : Bits5).toNat ≤ 30) := by decide
theorem witness_MultiplyIsCommutative : (holding 0x00000121 3 5).queue = ⟨0x00000121, 3, 5⟩ :: [] ∧ (1 ≤ (1 : Bits5).toNat ∧ (1 : Bits5).toNat ≤ 30) ∧
    Instr.mulM 1 ∈ [Instr.mulH 1, Instr.mulM 1, Instr.mulL 1] := by decide
theorem witness_MultiplyByOneReturnsTheOperand : (holding 0x00001E01 0x80000000 0x40000000).queue = ⟨0x00001E01, 0x80000000, 0x40000000⟩ :: [] ∧ (1 ≤ (30 : Bits5).toNat ∧ (30 : Bits5).toNat ≤ 30) ∧
    (0x40000000 : Word) = BitVec.ofNat 32 (2 ^ (30 : Bits5).toNat) := by decide
/-- The product 3 by 3 at `F = 1`, whose exact raw result is 9/2. -/
theorem witness_MulHighIsWithinHalfAnUlp : (holding 0x00000101 3 3).queue = ⟨0x00000101, 3, 3⟩ :: [] ∧
    (1 ≤ (1 : Bits5).toNat ∧ (1 : Bits5).toNat ≤ 30) ∧
    (-(2 ^ 31) ≤ ⌊(((3 : Word).toInt * (3 : Word).toInt : ℤ) / 2 ^ (1 : Bits5).toNat : ℚ) + 1 / 2⌋ ∧
      ⌊(((3 : Word).toInt * (3 : Word).toInt : ℤ) / 2 ^ (1 : Bits5).toNat : ℚ) + 1 / 2⌋ ≤ 2 ^ 31 - 1) := by
  decide +kernel
/-- The MUL.H and MUL.M conditions at the most negative word by 2 at `F = 1` (the boundary 2^31 with `neg`), and the MUL.L condition at its lower end. -/
theorem witness_MultiplyExactnessRanges : (holding 0x00000101 0x80000000 0x00000002).queue = ⟨0x00000101, 0x80000000, 0x00000002⟩ :: [] ∧ (1 ≤ (1 : Bits5).toNat ∧ (1 : Bits5).toNat ≤ 30) ∧
    (-(2 ^ 31) ≤ ((0x80000000 : Word).toInt * (2 : Word).toInt + 2 ^ 0) / 2 ^ 1 ∧
      ((0x80000000 : Word).toInt * (2 : Word).toInt + 2 ^ 0) / 2 ^ 1 ≤ 2 ^ 31 - 1) ∧
    ((0x80000000 : Word).toInt.natAbs % 2 ^ 1) * ((2 : Word).toInt.natAbs % 2 ^ 1) + 2 ^ 0 < 2 ^ 32 ∧
    (((0x80000000 : Word).toInt.natAbs * (2 : Word).toInt.natAbs + 2 ^ 0) / 2 ^ 1 = 2 ^ 31 ∧
      (0x80000000 : Word).getLsbD 31 ≠ (2 : Word).getLsbD 31) ∧
    (-(2 ^ 31) ≤ (0x80000000 : Word).toInt * (1 : Word).toInt ∧ (0x80000000 : Word).toInt * (1 : Word).toInt ≤ 2 ^ 31 - 1) := by decide
/-- The negative tie of P4, inside both ranges. -/
theorem witness_MultiplyVariantsAgree : (holding 0x00001001 0xFFFFFFFF 0x00008000).queue = ⟨0x00001001, 0xFFFFFFFF, 0x00008000⟩ :: [] ∧ (1 ≤ (16 : Bits5).toNat ∧ (16 : Bits5).toNat ≤ 30) ∧
    ((0xFFFFFFFF : Word).toInt.natAbs % 2 ^ 16) * ((0x8000 : Word).toInt.natAbs % 2 ^ 16) + 2 ^ 15 < 2 ^ 32 ∧
    ((0xFFFFFFFF : Word).toInt.natAbs * (0x8000 : Word).toInt.natAbs + 2 ^ 15) / 2 ^ 16 ≤ 2 ^ 31 - 1 ∧
    (-(2 ^ 31) ≤ (0xFFFFFFFF : Word).toInt * (0x8000 : Word).toInt ∧ (0xFFFFFFFF : Word).toInt * (0x8000 : Word).toInt ≤ 2 ^ 31 - 1) ∧
    ((0xFFFFFFFF : Word).toInt * (0x8000 : Word).toInt < 0 ∧
      (-((0xFFFFFFFF : Word).toInt * (0x8000 : Word).toInt)) % 2 ^ 16 = 2 ^ 15) := by decide
/-- Both clauses: a nonzero and a zero divisor. -/
theorem witness_DivHighIsTheCorrectedQuotient : (holding 0x00001E02 0x80000000 0xFFFFFFFF).queue = ⟨0x00001E02, 0x80000000, 0xFFFFFFFF⟩ :: [] ∧ (1 ≤ (30 : Bits5).toNat ∧ (30 : Bits5).toNat ≤ 30) ∧ (0xFFFFFFFF : Word) ≠ 0 ∧
    (holding 0x00001E02 1 0).queue = ⟨0x00001E02, 1, 0⟩ :: [] := by decide
/-- Both clauses: a nonzero and a zero divisor. -/
theorem witness_DivMidIsTheTruncatedMagnitudeQuotient : (holding 0x00000122 0x80000000 0xFFFFFFFF).queue = ⟨0x00000122, 0x80000000, 0xFFFFFFFF⟩ :: [] ∧ (1 ≤ (1 : Bits5).toNat ∧ (1 : Bits5).toNat ≤ 30) ∧ (0xFFFFFFFF : Word) ≠ 0 ∧
    (holding 0x00000122 1 0).queue = ⟨0x00000122, 1, 0⟩ :: [] := by decide
/-- Both clauses: a nonzero and a zero divisor. -/
theorem witness_DivLowDividesTheShiftedWord : (holding 0x00001E42 0x80000000 0xFFFFFFFF).queue = ⟨0x00001E42, 0x80000000, 0xFFFFFFFF⟩ :: [] ∧ (1 ≤ (30 : Bits5).toNat ∧ (30 : Bits5).toNat ≤ 30) ∧ (0xFFFFFFFF : Word) ≠ 0 ∧
    (holding 0x00001E42 1 0).queue = ⟨0x00001E42, 1, 0⟩ :: [] := by decide
/-- A legal divide by zero, and an illegal one. -/
theorem witness_DivideByZeroExactlyOnLegalDivides : (holding 0x00000102 1 0).queue = ⟨0x00000102, 1, 0⟩ :: [] ∧
    ((∃ F : Bits5, ((Instr.divH 1) = .divH F ∨ (Instr.divH 1) = .divM F ∨ (Instr.divH 1) = .divL F) ∧ 1 ≤ F.toNat ∧ F.toNat ≤ 30) ∧
      (0 : Word) = 0) ∧
    ¬ ((∃ F : Bits5, ((Instr.divH 0) = .divH F ∨ (Instr.divH 0) = .divM F ∨ (Instr.divH 0) = .divL F) ∧ 1 ≤ F.toNat ∧ F.toNat ≤ 30) ∧
      (0 : Word) = 0) := by decide
/-- 3 by 4 at `F = 1` meets the three conditions: the exact quotient is 3/2 (R81 corner case 1). -/
theorem witness_DivideExactnessRanges : (holding 0x00000102 3 4).queue = ⟨0x00000102, 3, 4⟩ :: [] ∧
    (1 ≤ (1 : Bits5).toNat ∧ (1 : Bits5).toNat ≤ 30) ∧ (4 : Word) ≠ 0 ∧
    (let D := (3 : Word).toInt * 2 ^ (1 : Bits5).toNat
     let Q : ℚ := (D : ℚ) / (4 : Word).toInt
     let sgnQ : ℤ := D.sign * (4 : Word).toInt.sign
     (-(2 ^ 31) ≤ sgnQ * ⌊|Q| + 1 / 2⌋ ∧ sgnQ * ⌊|Q| + 1 / 2⌋ ≤ 2 ^ 31 - 1) ∧ ⌊|Q|⌋ ≤ 2 ^ 31 - 1 ∧
       (-(2 ^ 31) ≤ D ∧ D ≤ 2 ^ 31 - 1 ∧ ¬ (D = -(2 ^ 31) ∧ (4 : Word).toInt = -1))) := by
  decide +kernel
/-- The largest word whose shift fits at `F = 16`, and the next. -/
theorem witness_DividingAWordByItselfGivesOne : (holding 0x00001042 0x00007FFF 0x00007FFF).queue = ⟨0x00001042, 0x00007FFF, 0x00007FFF⟩ :: [] ∧ (1 ≤ (16 : Bits5).toNat ∧ (16 : Bits5).toNat ≤ 30) ∧ (0x00007FFF : Word) ≠ 0 ∧
    (-(2 ^ (31 - 16)) ≤ (0x00007FFF : Word).toInt ∧ (0x00007FFF : Word).toInt ≤ 2 ^ (31 - 16) - 1) ∧
    ¬ (-(2 ^ (31 - 16)) ≤ (0x00008000 : Word).toInt ∧ (0x00008000 : Word).toInt ≤ 2 ^ (31 - 16) - 1) := by decide
theorem witness_RestoringScheduleDivides : (1 ≤ 2 ^ 31 ∧ 2 ^ 31 ≤ 2 ^ 31 ∧ 2 ^ 33 - 1 < 2 ^ 33) ∧
    (holding 0x00000122 0x80000000 0x80000000).queue = ⟨0x00000122, 0x80000000, 0x80000000⟩ :: [] ∧ (1 ≤ (1 : Bits5).toNat ∧ (1 : Bits5).toNat ≤ 30) ∧
    (0x80000000 : Word) ≠ 0 := by decide
theorem witness_CvtShiftsTheWord : (holding 0x00011E03 0x00000001 0).queue = ⟨0x00011E03, 0x00000001, 0⟩ :: [] ∧ (1 ≤ (30 : Bits5).toNat ∧ (30 : Bits5).toNat ≤ 30) ∧
    (1 ≤ (1 : Bits5).toNat ∧ (1 : Bits5).toNat ≤ 30) ∧ (1 : Bits5).toNat < (30 : Bits5).toNat := by decide
/-- The largest word that widens exactly from 8 to 16 bits. -/
theorem witness_CvtRoundTrips : (holding 0x00081003 0x007FFFFF 0).queue = ⟨0x00081003, 0x007FFFFF, 0⟩ :: [] ∧ (1 ≤ (16 : Bits5).toNat ∧ (16 : Bits5).toNat ≤ 30) ∧ (1 ≤ (8 : Bits5).toNat ∧ (8 : Bits5).toNat ≤ 30) ∧
    (8 : Bits5).toNat < (16 : Bits5).toNat ∧ -(2 ^ (31 - (16 - 8))) ≤ (0x007FFFFF : Word).toInt ∧
    (0x007FFFFF : Word).toInt ≤ 2 ^ (31 - (16 - 8)) - 1 := by decide
/-- A target position below the source position: from 16 to 8 bits. -/
theorem witness_CvtNarrowing : (holding 0x00100803 0xFFFFFF01 0).queue = ⟨0x00100803, 0xFFFFFF01, 0⟩ :: [] ∧
    (1 ≤ (8 : Bits5).toNat ∧ (8 : Bits5).toNat ≤ 30) ∧ (1 ≤ (16 : Bits5).toNat ∧ (16 : Bits5).toNat ≤ 30) ∧
    (8 : Bits5).toNat < (16 : Bits5).toNat := by decide
theorem witness_FromIntScalesTheInteger : (holding 0x00001E04 0xFFFFFFFF 0).queue = ⟨0x00001E04, 0xFFFFFFFF, 0⟩ :: [] ∧ (1 ≤ (30 : Bits5).toNat ∧ (30 : Bits5).toNat ≤ 30) := by decide
theorem witness_ToIntFloorsTheWord : (holding 0x00000105 0xFFFFFFFF 0).queue = ⟨0x00000105, 0xFFFFFFFF, 0⟩ :: [] ∧ (1 ≤ (1 : Bits5).toNat ∧ (1 : Bits5).toNat ≤ 30) := by decide
theorem witness_IntegerRoundTrip : (holding 0x00001004 0xFFFF8000 0).queue = ⟨0x00001004, 0xFFFF8000, 0⟩ :: [] ∧ (1 ≤ (16 : Bits5).toNat ∧ (16 : Bits5).toNat ≤ 30) ∧
    -(2 ^ (31 - 16)) ≤ (0xFFFF8000 : Word).toInt ∧ (0xFFFF8000 : Word).toInt ≤ 2 ^ (31 - 16) - 1 := by decide
/-- 5/2 at `F = 16`. -/
theorem witness_RealRoundTrip : (1 ≤ 16 ∧ 16 ≤ 30) ∧
    -(2 ^ 31) ≤ (SignType.sign (5 / 2 : ℝ) : ℤ) * ⌊|(5 / 2 : ℝ)| * 2 ^ 16 + 1 / 2⌋ ∧
    (SignType.sign (5 / 2 : ℝ) : ℤ) * ⌊|(5 / 2 : ℝ)| * 2 ^ 16 + 1 / 2⌋ ≤ 2 ^ 31 - 1 := by
  have hs : SignType.sign (5 / 2 : ℝ) = 1 := sign_pos (by norm_num)
  have hf : ⌊|(5 / 2 : ℝ)| * 2 ^ 16 + 1 / 2⌋ = 163840 := by
    rw [Int.floor_eq_iff, abs_of_pos (by norm_num)]; norm_num
  rw [hs, hf]; norm_num
/-- Any head will do for the commands without a count. -/
theorem witness_commands_without_a_count : (holding 0x001F000B 0x80000000 1).queue = ⟨0x001F000B, 0x80000000, 1⟩ :: [] := rfl
theorem witness_SignIsPlusOrMinusOne : (holding 0x00001E11 0 0).queue = ⟨0x00001E11, 0, 0⟩ :: [] ∧ (1 ≤ (30 : Bits5).toNat ∧ (30 : Bits5).toNat ≤ 30) := by decide
theorem witness_FloorClearsTheFraction : (holding 0x00000112 0xFFFFFFFF 0).queue = ⟨0x00000112, 0xFFFFFFFF, 0⟩ :: [] ∧ (1 ≤ (1 : Bits5).toNat ∧ (1 : Bits5).toNat ≤ 30) := by decide
theorem witness_CeilIsTheCeilingReconstructed : (holding 0x00001E13 0x7FFFFFFF 0).queue = ⟨0x00001E13, 0x7FFFFFFF, 0⟩ :: [] ∧ (1 ≤ (30 : Bits5).toNat ∧ (30 : Bits5).toNat ≤ 30) := by decide
theorem witness_RoundIsNearestTiesAwayFromZero : (holding 0x00000114 0x80000000 0).queue = ⟨0x00000114, 0x80000000, 0⟩ :: [] ∧ (1 ≤ (1 : Bits5).toNat ∧ (1 : Bits5).toNat ≤ 30) := by decide
/-- The three cases of the fraction: zero, a positive word, a negative word, where the ceiling fits. -/
theorem witness_FloorCeilRoundLaws : (1 ≤ (1 : Bits5).toNat ∧ (1 : Bits5).toNat ≤ 30) ∧
    (holding 0x00000112 3 0).queue = ⟨0x00000112, 3, 0⟩ :: [] ∧ (2 : Word).toNat % 2 ^ 1 = 0 ∧
    ((3 : Word).toNat % 2 ^ 1 ≠ 0 ∧ 0 < (3 : Word).toInt) ∧
    ((0xFFFFFFFD : Word).toNat % 2 ^ 1 ≠ 0 ∧ (0xFFFFFFFD : Word).toInt < 0) ∧
    ⌈((3 : Word).toInt : ℚ) / 2 ^ 1⌉ * 2 ^ 1 < 2 ^ 31 := by decide +kernel
theorem witness_SignTimesAbsIsTheWord : (holding 0x00001E11 0x80000001 0).queue = ⟨0x00001E11, 0x80000001, 0⟩ :: [] ∧ (1 ≤ (30 : Bits5).toNat ∧ (30 : Bits5).toNat ≤ 30) ∧ (0x80000001 : Word) ≠ 0x80000000 := by decide
/-- A count out of range at both ends, and one in range. -/
theorem witness_IllegalExactlyOnCountsOutOfRange : (holding 0x00001F01 1 1).queue = ⟨0x00001F01, 1, 1⟩ :: [] ∧
    ¬ (1 ≤ (31 : Bits5).toNat ∧ (31 : Bits5).toNat ≤ 30) ∧ ¬ (1 ≤ (0 : Bits5).toNat ∧ (0 : Bits5).toNat ≤ 30) ∧
    ¬ ¬ (1 ≤ (30 : Bits5).toNat ∧ (30 : Bits5).toNat ≤ 30) := by decide
theorem witness_LegalCommandsCompleteWithOk : (holding 0x00000142 1 1).queue = ⟨0x00000142, 1, 1⟩ :: [] ∧
    (Instr.divL 1).wellFormed = true ∧ (1 : Word) ≠ 0 := by decide
theorem witness_CommandsChangeOnlyTheResponsePorts : ∃ t, exec .cge (holding 0x0000001D 0x80000000 0x80000000) = .next t := ⟨_, rfl⟩
theorem witness_EmptyQueueStopsEveryCommand : State.reset.queue = [] := rfl
/-- One command due in two states that differ elsewhere. -/
theorem witness_ResponseDependsOnTheCommandAlone : (holding 0x00001002 1 0).due = some ⟨0x00001002, 1, 0⟩ ∧
    State.due { holding 0x00001002 1 0 with queue := [⟨0x00001002, 1, 0⟩, c1], draws := 5, cmdReady := true } =
      some ⟨0x00001002, 1, 0⟩ := by decide
theorem witness_OneOperandCommandsIgnoreB : (holding 0x0000000A 1 0).queue = ⟨0x0000000A, 1, 0⟩ :: [] ∧
    (match Instr.neg with | .neg => True | _ => False) := ⟨rfl, trivial⟩
/-- A held response with a status that is not `0b11`, after the step too. -/
theorem witness_ReservedStatusIsNeverPresented : (∃ t, exec .add (holding 8 1 2) = .next t) ∧
    ∃ t, step (presenting ⟨false, false, c2, false⟩) = .next t ∧
      (presenting ⟨false, false, c2, false⟩).rspStatus ≠ 0b11 ∧ t.rspValid = true := ⟨⟨_, rfl⟩, _, rfl, by decide, rfl⟩
/-- The three cases of a step: nothing due, a word that decodes, one that does not. -/
theorem witness_StepRunsTheDecodedCommand : State.reset.edge.due = none ∧
    ((State.reset.withHead c1).edge.due = some c1 ∧ decode c1.word = .ok (.mulH 16)) ∧
    (State.reset.withHead ⟨0x00000028, 0, 0⟩).edge.due = some ⟨0x00000028, 0, 0⟩ ∧
      decode 0x00000028 = .error .badStrategy := ⟨rfl, ⟨rfl, rfl⟩, rfl, rfl⟩
theorem witness_ResetEmptiesTheBlock : (presenting ⟨true, true, c2, true⟩).host = ⟨true, true, c2, true⟩ :: [] ∧
    (⟨true, true, c2, true⟩ : Pins).rst = true := ⟨rfl, rfl⟩
/-- Both handshakes at one edge. -/
theorem witness_QueueFollowsTheHandshake :
    State.host { presenting ⟨false, true, c2, true⟩ with cmdReady := true } = ⟨false, true, c2, true⟩ :: [] ∧
    (⟨false, true, c2, true⟩ : Pins).rst = false := ⟨rfl, rfl⟩
theorem witness_PresentedResponseIsHeld : (presenting ⟨false, false, c2, false⟩).host = ⟨false, false, c2, false⟩ :: [] ∧
    (⟨false, false, c2, false⟩ : Pins).rst = false ∧ (⟨false, false, c2, false⟩ : Pins).rspReady = false ∧
    (presenting ⟨false, false, c2, false⟩).rspValid = true := ⟨rfl, rfl, rfl, rfl⟩
/-- The three ways a command is not accepted: `cmd_ready = 0`, and with `cmd_ready = 1`, `cmd_valid = 0` or `rst = 1`. The first and
the third meet the second clause too. -/
theorem witness_UnacceptedCommandHasNoEffect :
    ((presenting ⟨false, true, c2, true⟩).host = ⟨false, true, c2, true⟩ :: [] ∧
      (presenting ⟨false, true, c2, true⟩).cmdReady = false) ∧
    (State.host { presenting ⟨false, false, c2, true⟩ with cmdReady := true } = ⟨false, false, c2, true⟩ :: [] ∧
      (⟨false, false, c2, true⟩ : Pins).cmdValid = false) ∧
    (State.host { presenting ⟨true, true, c2, true⟩ with cmdReady := true } = ⟨true, true, c2, true⟩ :: [] ∧
      (⟨true, true, c2, true⟩ : Pins).rst = true) := ⟨⟨rfl, rfl⟩, ⟨rfl, rfl⟩, rfl, rfl⟩

/-- The block with one command meets the invariant whatever `DEPTH` is: `DEPTH` is at least 1. -/
theorem holding_inv (word a b : Word) : (holding word a b).Inv where
  bounded := by simp [holding, Config.depth]
  ready := by simp [holding, State.reset]
  presented := by simp [holding, State.reset]

theorem witness_StepKeepsInv : (holding 8 1 2).Inv ∧ ∃ t, step (holding 8 1 2) = .next t := ⟨holding_inv .., _, rfl⟩
theorem witness_ResponsesFollowTheOrderOfAcceptance : (holding 8 1 2).Inv ∧
    State.unreset (holding 8 1 2) 3 := ⟨holding_inv .., by simp [State.unreset, holding, State.reset]⟩
theorem witness_EveryHeadIsAnswered : (holding 8 1 2).queue = ⟨8, 1, 2⟩ :: [] ∧ (holding 8 1 2).rspValid = false ∧
    (holding 8 1 2).unreset ((holding 8 1 2).rspWait + 1) := ⟨rfl, rfl, by simp [State.unreset, holding, State.reset]⟩
theorem witness_HeldCommandIsAccepted : (holding 8 1 2).Inv := holding_inv ..
/-- Both clauses: a named result, and the name of a line that faults. -/
theorem witness_ListingNamesAreResults : execReply ⟨0x00000009, 5, 5⟩ = .value 0 ∧
    execReply ⟨0x00001022, 5, 0⟩ = .raises .divideByZero ∧
    (⟨some 1, 0x00000009, .literal 5, .literal 5⟩ : ListingLine).name = some 1 ∧
    (⟨none, 0x00000010, .named 1, .literal 0⟩ : ListingLine).a = .named 1 := by decide

end Sys2Proof.Tests
end

