-- ==== Sys2Proof/Proofs/Scope.lean ====
section
/-!
SUPPORT. The reply of every command as one function of its operands (R31, R59, R84), and the two statements of `00_scope.md`.
-/

namespace Sys2Proof.Machine

/-! ### The reply of a command -/

/-- The result word of each command's rule (R71 to R73, R81 to R83, R91 to R94, R101 to R119), where neither check before it faults. -/
def resultWord : Instr → Word → Word → Word
  | .mulH F, a, b => mulHigh F.toNat a b
  | .mulM F, a, b => mulMid F.toNat a b
  | .mulL F, a, b => mulLow F.toNat a b
  | .divH F, a, b => divHigh F.toNat a b
  | .divM F, a, b => divMid F.toNat a b
  | .divL F, a, b => divLow F.toNat a b
  | .cvt F B, a, _ => rescale F.toNat B.toNat a
  | .fromInt F, a, _ => fromInteger F.toNat a
  | .toInt F, a, _ => toInteger F.toNat a
  | .add, a, b => wrap32 (s32 a + s32 b)
  | .sub, a, b => wrap32 (s32 a - s32 b)
  | .neg, a, _ => negate a
  | .shl sh, a, _ => wrap32 (s32 a * pow2 sh.toNat)
  | .shr sh, a, _ => wrap32 (sra (s32 a) sh.toNat)
  | .abs, a, _ => absolute a
  | .sign F, a, _ => signWord F.toNat a
  | .floor F, a, _ => floorWord F.toNat a
  | .ceil F, a, _ => ceilWord F.toNat a
  | .round F, a, _ => roundWord F.toNat a
  | .ceq, a, b => truthWord (decide (s32 a = s32 b))
  | .cne, a, b => truthWord (decide (s32 a ≠ s32 b))
  | .clt, a, b => truthWord (decide (s32 a < s32 b))
  | .cle, a, b => truthWord (decide (s32 a ≤ s32 b))
  | .cgt, a, b => truthWord (decide (s32 a > s32 b))
  | .cge, a, b => truthWord (decide (s32 a ≥ s32 b))

/-- The commands of the divider, which test their divisor word (R84). -/
def isDivide : Instr → Bool
  | .divH _ | .divM _ | .divL _ => true
  | _ => false

theorem isDivide_iff {i : Instr} : isDivide i = true ↔ ∃ F, i = .divH F ∨ i = .divM F ∨ i = .divL F := by
  cases i <;> simp [isDivide]

/-- The reply of a command to its operands: the field checks of R59, then the divisor test of R84, then the result. -/
def replyTo (i : Instr) (a b : Word) : Reply :=
  if i.wellFormed then
    if isDivide i then checkDivisor b (.value (resultWord i a b)) else .value (resultWord i a b)
  else .raises .illegalCommand

/-- Checking two counts in turn is checking both: the first that is out of range faults as the second would. -/
theorem checkCount_checkCount (F B : Bits5) (r : Reply) :
    checkCount F (checkCount B r) = if countInRange F && countInRange B then r else .raises .illegalCommand := by
  cases hF : countInRange F <;> simp [checkCount, hF]

/-- Every command answers the head of the queue with its reply to the operands. -/
theorem exec_eq_answer (i : Instr) (s : State) : exec i s = s.answer (replyTo i) := by
  cases i with
  | cvt F B => exact congrArg s.answer (funext₂ fun a _ => checkCount_checkCount F B (.value (rescale F.toNat B.toNat a)))
  | _ => rfl

/-- A legal command that does not divide by zero replies with its result word. -/
theorem replyTo_of_legal {i : Instr} {a b : Word} (hwf : i.wellFormed = true) (hb : isDivide i = true → b ≠ 0) :
    replyTo i a b = .value (resultWord i a b) := by
  rw [replyTo, if_pos hwf]
  split
  case isTrue hdiv => exact checkDivisor_nonzero (hb hdiv) _
  case isFalse => rfl

/-- A legal command that does not divide by zero completes with its result word. -/
theorem completes_resultWord {i : Instr} {s : State} {c : Command} {rest : List Command} (hq : s.queue = c :: rest)
    (hwf : i.wellFormed = true) (hb : isDivide i = true → c.b ≠ 0) : Completes i s (resultWord i c.a c.b) := by
  rw [Completes, exec_eq_answer, State.answer_cons hq, replyTo_of_legal hwf hb]
  rfl

/-- Settles O41: whatever overflows, a legal command ends in its result word, since only R59 and R84 raise a fault. -/
theorem legalCommandsCompleteWithOk : Obligations.LegalCommandsCompleteWithOk := by
  intro i s c rest hq hwf hdiv
  refine ⟨_, completes_resultWord hq hwf fun hi => ?_⟩
  obtain ⟨F, hF⟩ := isDivide_iff.1 hi
  obtain hb | hne := hdiv
  · exact hb
  · obtain ⟨hH, hM, hL⟩ := hne F
    simp [hH, hM, hL] at hF

/-! ### The response of a reply -/

/-- No fault is reported with status `OK` (R130). -/
theorem BlockFault.status_code_ne_okay (f : BlockFault) : f.status.code ≠ 0b00 := by
  cases f <;> decide

/-- Settles O44: in both states the command is answered by its `Exec` (R31), and only the result word of a fault is drawn from the
state. -/
theorem responseDependsOnTheCommandAlone : Obligations.ResponseDependsOnTheCommandAlone := by
  intro s₁ s₂ c h₁ h₂
  refine ⟨_, _, State.issue_of_due_reply h₁, State.issue_of_due_reply h₂, ?_⟩
  cases execReply c with
  | value v => exact ⟨rfl, fun _ => rfl⟩
  | raises f => exact ⟨rfl, fun hok => absurd hok f.status_code_ne_okay⟩

end Sys2Proof.Machine
end

/-!
SUPPORT. One step of the block as a total function, what it can do to each field of the state, and the statements of `10_state.md`:
the frame of a command, the handshake, the invariant and the two bounded waits.
-/

namespace Sys2Proof.Machine

/-! ### What presenting a reply leaves unchanged -/

@[simp] theorem State.respond_rspWait (s : State) (r : Reply) : (s.respond r).rspWait = s.rspWait := by cases r <;> rfl
@[simp] theorem State.respond_held (s : State) (r : Reply) : (s.respond r).held = s.held := by cases r <;> rfl
@[simp] theorem State.respond_epoch (s : State) (r : Reply) : (s.respond r).epoch = s.epoch := by cases r <;> rfl

/-- Presenting a reply reads nothing of the queue. -/
theorem State.respond_withQueue (s : State) (q : List Command) (r : Reply) :
    { s with queue := q }.respond r = { s.respond r with queue := q } := by
  cases r <;> rfl

/-- The free values are drawn on exactly by the replies whose status is a fault's. -/
theorem State.respond_draws (s : State) (r : Reply) :
    (s.respond r).draws = if (s.respond r).rspStatus = 0b00 then s.draws else s.draws + 1 := by
  cases r with
  | value v => rfl
  | raises f => exact (if_neg f.status_code_ne_okay).symm

/-- The reserved status is the code of no reply (R28). -/
theorem State.respond_rspStatus_ne_reserved (s : State) (r : Reply) : (s.respond r).rspStatus ≠ 0b11 := by
  cases r with
  | value v => simp [State.respond]
  | raises f => cases f <;> simp [State.respond, BlockFault.status, Status.code]

/-- What is presented for the `Exec` of a command answers the command. -/
theorem State.answers_respond_execReply (s : State) (c : Command) : Answers c (s.respond (execReply c)).response := by
  unfold Answers
  cases execReply c with
  | value v => rfl
  | raises f => cases f <;> rfl

/-! ### Commands applied by hand -/

/-- A command that answers a next state presents a reply there. -/
theorem exec_next {i : Instr} {s t : State} (h : exec i s = .next t) : ∃ r, t = s.respond r := by
  rw [exec_eq_answer] at h
  obtain ⟨c, -, -, rfl⟩ := State.answer_next h
  exact ⟨_, rfl⟩

/-- Settles O42: a command presents a reply, and presenting one moves no field but the response ports and the draws of a fault. -/
theorem commandsChangeOnlyTheResponsePorts : Obligations.CommandsChangeOnlyTheResponsePorts := by
  intro i s t h
  obtain ⟨r, rfl⟩ := exec_next h
  simp +contextual [State.respond_draws]

/-- Settles O43: every meaning is an answer to the head of the queue. -/
theorem emptyQueueStopsEveryCommand : Obligations.EmptyQueueStopsEveryCommand := by
  intro i s hq
  rw [exec_eq_answer, State.answer_nil hq]

/-- Settles O45: the reply of a one-operand command does not read `b`, and presenting it does not read the queue. -/
theorem oneOperandCommandsIgnoreB : Obligations.OneOperandCommandsIgnoreB := by
  intro i s c rest b' hq hi
  have hb : replyTo i c.a b' = replyTo i c.a c.b := by
    cases i with
    | mulH | mulM | mulL | divH | divM | divL | add | sub | ceq | cne | clt | cle | cgt | cge => exact hi.elim
    | _ => rfl
  refine ⟨s.respond (replyTo i c.a c.b), ?_, ?_⟩
  · rw [exec_eq_answer, State.answer_cons hq]
  · rw [exec_eq_answer, State.answer_cons rfl, hb, State.respond_withQueue]

/-! ### The step as a function

No step stops, so `step` is a function `State.next`: the edge, and then the reply of the command that is due, if one is. -/

/-- The state with the reply of the due command presented; the state itself where none is due. -/
def State.presentDue (s : State) : State := s.due.elim s fun c => s.respond (execReply c)

/-- The state after one step. -/
def State.next (s : State) : State := s.edge.presentDue

theorem State.presentDue_of_none {s : State} (h : s.due = none) : s.presentDue = s := by
  simp [State.presentDue, h]

theorem State.presentDue_of_due {s : State} {c : Command} (h : s.due = some c) :
    s.presentDue = s.respond (execReply c) := by
  simp [State.presentDue, h]

theorem State.issue_eq_presentDue (s : State) : s.issue = .next s.presentDue := by
  cases hd : s.due with
  | none => rw [State.issue_of_none hd, State.presentDue_of_none hd]
  | some c => rw [State.issue_of_due_reply hd, State.presentDue_of_due hd]

theorem step_eq_next (s : State) : step s = .next s.next := s.edge.issue_eq_presentDue

theorem step_next_iff {s t : State} : step s = .next t ↔ s.next = t := by
  simp [step_eq_next]

@[simp] theorem core_run_zero (s : State) : core.run 0 s = .next s := rfl

@[simp] theorem core_run_succ (k : ℕ) (s : State) : core.run (k + 1) s = core.run k s.next := by
  have hstep : core.step s = .next s.next := step_eq_next s
  simp only [Host.Core.run, hstep]

/-- What a step presents: the ports as the edge left them, or the reply of the head of the queue. -/
theorem State.presentDue_cases (s : State) :
    s.presentDue = s ∨ ∃ c rest, s.rspValid = false ∧ s.queue = c :: rest ∧ s.presentDue = s.respond (execReply c) :=
  State.issue_next s.issue_eq_presentDue

section
variable (s : State)

@[simp] theorem State.presentDue_queue : s.presentDue.queue = s.queue := by
  cases hd : s.due <;> simp [State.presentDue, hd]
@[simp] theorem State.presentDue_cmdReady : s.presentDue.cmdReady = s.cmdReady := by
  cases hd : s.due <;> simp [State.presentDue, hd]
@[simp] theorem State.presentDue_host : s.presentDue.host = s.host := by
  cases hd : s.due <;> simp [State.presentDue, hd]
@[simp] theorem State.presentDue_rspWait : s.presentDue.rspWait = s.rspWait := by
  cases hd : s.due <;> simp [State.presentDue, hd]
@[simp] theorem State.presentDue_held : s.presentDue.held = s.held := by
  cases hd : s.due <;> simp [State.presentDue, hd]
@[simp] theorem State.presentDue_epoch : s.presentDue.epoch = s.epoch := by
  cases hd : s.due <;> simp [State.presentDue, hd]

@[simp] theorem State.next_queue : s.next.queue = s.edge.queue := s.edge.presentDue_queue
@[simp] theorem State.next_cmdReady : s.next.cmdReady = s.edge.cmdReady := s.edge.presentDue_cmdReady
@[simp] theorem State.next_rspWait : s.next.rspWait = s.edge.rspWait := s.edge.presentDue_rspWait
@[simp] theorem State.next_held : s.next.held = s.edge.held := s.edge.presentDue_held
@[simp] theorem State.next_epoch : s.next.epoch = s.edge.epoch := s.edge.presentDue_epoch

theorem State.edge_host : s.edge.host = s.host.tail := by
  cases hr : s.pins.rst
  · rw [State.edge_run hr, State.runEdge_host]
  · rw [State.edge_reset hr, State.resetEdge_host]

@[simp] theorem State.next_host : s.next.host = s.host.tail := by
  rw [State.next, State.presentDue_host, State.edge_host]

end

/-- Settles O47: `due` either names the head, whose word `issue` decodes, or it names none and `issue` keeps the edge. -/
theorem stepRunsTheDecodedCommand : Obligations.StepRunsTheDecodedCommand := by
  intro s
  refine ⟨s.edge_host, fun hd => State.issue_of_none hd, fun c i hd hc => ?_, fun c e hd hc => ?_⟩ <;>
    simp [step, State.issue, hd, hc]

/-! ### Acceptance and delivery -/

theorem State.accepts_iff {s : State} (hr : s.pins.rst = false) :
    s.accepts = true ↔ s.pins.cmdValid = true ∧ s.cmdReady = true := by
  simp [State.accepts, hr]

theorem State.delivers_iff {s : State} (hr : s.pins.rst = false) :
    s.delivers = true ↔ s.rspValid = true ∧ s.pins.rspReady = true := by
  simp [State.delivers, hr]

/-- Without a delivery the head stays the head, whether or not a command is appended. -/
theorem State.queueAfter_cons {s : State} {c : Command} {rest : List Command} (hd : s.delivers = false)
    (hq : s.queue = c :: rest) : ∃ rest', s.queueAfter = c :: rest' := by
  cases ha : s.accepts <;> simp [State.queueAfter, State.undelivered, ha, hd, hq]

/-- Delivery makes the queue no longer. -/
theorem State.undelivered_length_le (s : State) : s.undelivered.length ≤ s.queue.length := by
  cases hd : s.delivers <;> simp [State.undelivered, hd]

/-- Settles O50: presentation leaves the queue as the edge made it. -/
theorem queueFollowsTheHandshake : Obligations.QueueFollowsTheHandshake := by
  intro s p ps hp hr
  obtain rfl := State.pins_cons hp
  refine ⟨s.next, step_eq_next s, by simp [hp], ?_⟩
  simp only [State.next_queue, State.edge_run hr, State.runEdge_queue, State.queueAfter, State.undelivered,
    State.accepts_iff hr, State.delivers_iff hr]
  split <;> simp

/-- While a response is presented nothing is due, so the step is its edge. -/
theorem State.presentDue_of_presented {s : State} (hv : s.rspValid = true) : s.presentDue = s :=
  State.presentDue_of_none (State.due_eq_none.2 (.inl hv))

/-- Settles O51: an edge without delivery holds the ports and the head, and while a response is presented nothing is due. -/
theorem presentedResponseIsHeld : Obligations.PresentedResponseIsHeld := by
  intro s p ps hp hr hready hv
  obtain rfl := State.pins_cons hp
  have hd : s.delivers = false := by simp [State.delivers, hready]
  have hv' : s.runEdge.rspValid = true := by simp [hv, hd]
  have hnext : s.next = s.runEdge := by rw [State.next, State.edge_run hr, State.presentDue_of_presented hv']
  refine ⟨s.runEdge, step_next_iff.2 hnext, hv', s.runEdge_response hv hd, fun c rest hq => ?_⟩
  exact State.queueAfter_cons hd hq

/-! ### The reserved status -/

/-- A response presented after the edge was presented before it and is unchanged. -/
theorem State.edge_response {s : State} (h : s.edge.rspValid = true) :
    s.pins.rst = false ∧ s.rspValid = true ∧ s.delivers = false ∧ s.edge.response = s.response := by
  cases hr : s.pins.rst with
  | true => simp [State.edge_reset hr] at h
  | false =>
    rw [State.edge_run hr] at h ⊢
    obtain ⟨hv, hd⟩ : s.rspValid = true ∧ s.delivers = false := by simpa using h
    exact ⟨rfl, hv, hd, s.runEdge_response hv hd⟩

/-- Settles O46: a step holds the response presented before, or presents a reply, and no reply has the reserved status. -/
theorem reservedStatusIsNeverPresented : Obligations.ReservedStatusIsNeverPresented := by
  refine ⟨fun i s t h => ?_, fun s t h hs hv => ?_⟩
  · obtain ⟨r, rfl⟩ := exec_next h
    exact s.respond_rspStatus_ne_reserved r
  · obtain rfl := step_next_iff.1 h
    obtain heq | ⟨c, -, -, -, heq⟩ := s.edge.presentDue_cases
    · rw [State.next, heq] at hv ⊢
      obtain ⟨-, hv, -, hresp⟩ := State.edge_response hv
      have hstatus : s.edge.rspStatus = s.rspStatus := congrArg Response.status hresp
      exact hstatus ▸ hs hv
    · rw [State.next, heq]
      exact s.edge.respond_rspStatus_ne_reserved _

/-! ### The invariant -/

/-- Settles O49: the three values of R32. -/
theorem resetStateOfTheSpec : Obligations.ResetStateOfTheSpec := ⟨rfl, rfl, rfl⟩

/-- Settles O54: `Q` is empty and both handshake outputs are 0. -/
theorem invHoldsAtReset : Obligations.InvHoldsAtReset where
  bounded := Nat.zero_le _
  ready h := by simp [State.reset] at h
  presented h := by simp [State.reset] at h

/-- A command is appended only where `cmd_ready` promised room for it. -/
theorem State.Inv.queueAfter_length_le {s : State} (h : s.Inv) : s.queueAfter.length ≤ Config.depth := by
  have hle := s.undelivered_length_le
  rw [State.queueAfter]
  split
  case isTrue ha =>
    rw [State.accepts, Bool.and_eq_true] at ha
    simpa using hle.trans_lt (h.ready ha.2)
  case isFalse => exact hle.trans h.bounded

/-- An edge keeps the invariant. -/
theorem State.Inv.edge {s : State} (h : s.Inv) : s.edge.Inv where
  bounded := by
    cases hr : s.pins.rst with
    | true => simp [State.edge_reset hr]
    | false => simpa [State.edge_run hr] using h.queueAfter_length_le
  ready hready := by
    cases hr : s.pins.rst with
    | true => simp [State.edge_reset hr] at hready
    | false =>
      simp only [State.edge_run hr, State.runEdge_cmdReady, Bool.and_eq_true] at hready
      simpa [State.edge_run hr, State.hasRoom] using hready.1
  presented hv := by
    obtain ⟨hr, hv, hd, hresp⟩ := State.edge_response hv
    obtain ⟨c, rest, hq, hans⟩ := h.presented hv
    obtain ⟨rest', hq'⟩ := State.queueAfter_cons hd hq
    exact ⟨c, rest', by rw [State.edge_run hr, State.runEdge_queue, hq'], hresp ▸ hans⟩

/-- Presenting the reply of the due command keeps the invariant. -/
theorem State.Inv.presentDue {s : State} (h : s.Inv) : s.presentDue.Inv := by
  obtain heq | ⟨c, rest, -, hq, heq⟩ := s.presentDue_cases
  · rwa [heq]
  · rw [heq]
    exact ⟨by simpa using h.bounded, by simpa using h.ready,
      fun _ => ⟨c, rest, by simpa using hq, s.answers_respond_execReply c⟩⟩

/-- A step keeps the invariant. -/
theorem State.Inv.next {s : State} (h : s.Inv) : s.next.Inv := h.edge.presentDue

/-- Settles O55: the edge keeps the invariant, and so does the presentation of the command that is due. -/
theorem stepKeepsInv : Obligations.StepKeepsInv := by
  intro s t hs h
  obtain rfl := step_next_iff.1 h
  exact hs.next

/-! ### The head is answered -/

/-- A run without reset begins with an edge without reset. -/
theorem State.unreset_succ {s : State} {n : ℕ} (h : s.unreset (n + 1)) : s.pins.rst = false ∧ s.next.unreset n := by
  cases hp : s.host with
  | nil => simp [State.pins, State.unreset, hp, Pins.idle]
  | cons p ps => simpa [State.pins, State.unreset, hp] using h

/-- The head, while its response is not presented, stays the head at the edge and is one edge nearer to its answer. -/
theorem State.runEdge_of_waiting {s : State} {c : Command} {rest : List Command} (hq : s.queue = c :: rest)
    (hv : s.rspValid = false) : (∃ rest', s.runEdge.queue = c :: rest') ∧ s.runEdge.rspValid = false ∧
      s.runEdge.rspWait = s.rspWait - 1 := by
  have hd : s.delivers = false := by simp [State.delivers, hv]
  obtain ⟨rest', hq'⟩ := State.queueAfter_cons hd hq
  exact ⟨⟨rest', hq'⟩, by simp [hv], by simp [State.waitAfter, hq', State.headIsNew, hd, hq]⟩

/-- A step without reset presents the response of a waiting head, or leaves it one edge less to wait. -/
theorem State.next_of_waiting {s : State} {c : Command} {rest : List Command} (hr : s.pins.rst = false)
    (hq : s.queue = c :: rest) (hv : s.rspValid = false) : (∃ rest', s.next.queue = c :: rest') ∧
      (s.next.rspValid = true ∧ Answers c s.next.response ∨ s.next.rspValid = false ∧ s.next.rspWait + 1 = s.rspWait) := by
  obtain ⟨⟨rest', hq'⟩, hv', hw⟩ := State.runEdge_of_waiting hq hv
  rw [State.next, State.edge_run hr, State.presentDue_queue]
  refine ⟨⟨rest', hq'⟩, ?_⟩
  by_cases hzero : s.runEdge.rspWait = 0
  · rw [State.presentDue_of_due (State.due_eq_some.2 ⟨hv', hzero, rest', hq'⟩)]
    exact .inl ⟨State.respond_rspValid .., s.runEdge.answers_respond_execReply c⟩
  · rw [State.presentDue_of_none (State.due_eq_none.2 (.inr (.inl hzero)))]
    exact .inr ⟨hv', by omega⟩

/-- Settles O57, by induction on the wait of the head. -/
theorem everyHeadIsAnswered : Obligations.EveryHeadIsAnswered := by
  intro s
  induction hw : s.rspWait using Nat.strong_induction_on generalizing s with
  | _ w ih =>
    intro c rest hq hv hrun
    obtain ⟨hr, hrun'⟩ := State.unreset_succ hrun
    obtain ⟨⟨rest', hq'⟩, ⟨hv', hans⟩ | ⟨hv', hwait⟩⟩ := State.next_of_waiting hr hq hv
    · exact ⟨1, s.next, le_rfl, Nat.le_add_left .., by simp, hv', ⟨rest', hq'⟩, hans⟩
    · obtain ⟨k, t, -, hk, hrunk, ht⟩ :=
        ih s.next.rspWait (by omega) s.next rfl c rest' hq' hv' (by rwa [hwait, hw])
      exact ⟨k + 1, t, Nat.le_add_left .., by omega, by rwa [core_run_succ], ht⟩

/-! ### A held command is accepted -/

/-- The pins of a host that holds command `c` valid and takes every response. -/
def Pins.asking (c : Command) : Pins := ⟨false, true, c, true⟩

/-- The state with other pins listed. -/
def State.withHost (s : State) (pins : List Pins) : State := { s with host := pins }

theorem State.presentDue_withHost (s : State) (pins : List Pins) :
    (s.withHost pins).presentDue = s.presentDue.withHost pins := by
  have hdue : (s.withHost pins).due = s.due := rfl
  cases hd : s.due with
  | none => rw [State.presentDue_of_none (hdue.trans hd), State.presentDue_of_none hd]
  | some c =>
    rw [State.presentDue_of_due (hdue.trans hd), State.presentDue_of_due hd]
    cases execReply c <;> rfl

theorem State.edge_withHost (s : State) (p : Pins) (ps : List Pins) :
    (s.withHost (p :: ps)).edge = (s.withHost [p]).edge.withHost ps := by
  have hpins : (s.withHost (p :: ps)).pins.rst = p.rst := rfl
  have hpin : (s.withHost [p]).pins.rst = p.rst := rfl
  cases hr : p.rst
  · rw [State.edge_run (hpins.trans hr), State.edge_run (hpin.trans hr)]
    rfl
  · rw [State.edge_reset (hpins.trans hr), State.edge_reset (hpin.trans hr)]
    rfl

/-- A step reads the first pins listed and no others. -/
theorem State.next_withHost (s : State) (p : Pins) (ps : List Pins) :
    (s.withHost (p :: ps)).next = (s.withHost [p]).next.withHost ps := by
  rw [State.next, State.edge_withHost, State.presentDue_withHost, State.next]

/-- Some number of edges, whatever is listed behind them, after which an asking host finds `cmd_ready = 1`. -/
def State.GetsReady (c : Command) (s : State) : Prop :=
  ∃ k : ℕ, ∀ later : List Pins, ∃ t : State,
    core.run k (s.withHost (List.replicate k (Pins.asking c) ++ later)) = .next t ∧ t.cmdReady = true ∧ t.host = later

theorem State.getsReady_of_cmdReady {c : Command} {s : State} (h : s.cmdReady = true) : s.GetsReady c :=
  ⟨0, fun later => ⟨s.withHost later, rfl, h, rfl⟩⟩

theorem State.getsReady_of_next {c : Command} {s : State} (h : (s.withHost [.asking c]).next.GetsReady c) :
    s.GetsReady c := by
  obtain ⟨k, hk⟩ := h
  refine ⟨k + 1, fun later => ?_⟩
  rw [core_run_succ, List.replicate_succ, List.cons_append, State.next_withHost]
  exact hk later

/-- Edges until a response is presented for the head of `Q`: none where it is, or where there is no head. -/
def State.waiting (s : State) : ℕ := if s.rspValid || s.queue.isEmpty then 0 else s.rspWait + 1

/-- Edges that `cmd_ready` may still be held low with room in `Q` (R29 "but not for ever"). -/
def State.patience (s : State) : ℕ := Config.holdLimit s.epoch - s.held

/-- How far the block is from accepting: a shorter queue is nearer whatever wait its new head draws, and a shorter wait is nearer
whatever time is left to hold back. -/
def State.distance (s : State) : ℕ ×ₗ ℕ ×ₗ ℕ := toLex (s.queue.length, toLex (s.waiting, s.patience))

theorem State.distance_lt {s t : State} : s.distance < t.distance ↔
    s.queue.length < t.queue.length ∨ s.queue.length = t.queue.length ∧
      (s.waiting < t.waiting ∨ s.waiting = t.waiting ∧ s.patience < t.patience) := by
  simp [State.distance, Prod.Lex.toLex_lt_toLex]

section
variable {s : State} {c : Command} (hp : s.pins = .asking c) (hready : s.cmdReady = false)
include hp hready

/-- While `cmd_ready` is low, the edge of an asking host only delivers. -/
theorem State.edge_queue_of_asking : s.edge.queue = s.undelivered := by
  simp [State.edge_run, hp, Pins.asking, State.queueAfter, State.accepts, hready]

/-- A presented response is delivered, so the queue gets shorter. -/
theorem State.distance_next_of_presented (hv : s.rspValid = true) (hq : s.queue ≠ []) : s.next.distance < s.distance := by
  have hd : s.delivers = true := by simp [State.delivers, hp, Pins.asking, hv]
  have hlen : s.next.queue.length < s.queue.length := by
    simp [State.edge_queue_of_asking hp hready, State.undelivered, hd, List.length_pos_iff.2 hq]
  exact State.distance_lt.2 (.inl hlen)

/-- A head whose response is not presented comes nearer to it. -/
theorem State.distance_next_of_waiting (hv : s.rspValid = false) (hq : s.queue ≠ []) : s.next.distance < s.distance := by
  have hd : s.delivers = false := by simp [State.delivers, hv]
  have hsame : s.edge.queue = s.queue := by simp [State.edge_queue_of_asking hp hready, State.undelivered, hd]
  obtain ⟨head, rest, hcons⟩ := List.exists_cons_of_ne_nil hq
  have hwait : s.next.waiting < s.waiting := by
    obtain ⟨-, ⟨hv', -⟩ | ⟨hv', hw⟩⟩ := State.next_of_waiting (by rw [hp]; rfl) hcons hv
    · simp [State.waiting, hv, hv', hcons]
    · simp [State.waiting, hsame, hv, hv', hcons, ← hw]
  exact State.distance_lt.2 (.inr ⟨by simp [hsame], .inl hwait⟩)

/-- With no command in flight there is room, so the block becomes ready or uses up one cycle of holding back. -/
theorem State.ready_or_distance_next_of_empty (hq : s.queue = []) :
    s.next.cmdReady = true ∨ s.next.distance < s.distance := by
  have hempty : s.edge.queue = [] := by simp [State.edge_queue_of_asking hp hready, State.undelivered, hq]
  have hedge : s.edge = s.runEdge := State.edge_run (by rw [hp]; rfl)
  have haccepts : s.accepts = false := by simp [State.accepts, hready]
  have hroom : s.hasRoom = true := by
    rw [hedge, State.runEdge_queue] at hempty
    simp [State.hasRoom, hempty, Config.depth]
  cases hb : s.holdsBack with
  | false => exact .inl (by simp [hedge, hroom, hb])
  | true =>
    obtain ⟨-, hlimit⟩ : Config.holdsBack s.draws = true ∧ s.held < Config.holdLimit s.epoch := by
      simpa [State.holdsBack, State.heldBefore, State.epochAfter, haccepts, hroom] using hb
    have hheld : s.next.held = s.held + 1 := by
      simp [hedge, State.heldBefore, haccepts, hb, hp, Pins.asking]
    have hepoch : s.next.epoch = s.epoch := by simp [hedge, State.epochAfter, haccepts]
    have hpatience : s.next.patience < s.patience := by
      rw [State.patience, State.patience, hheld, hepoch]
      omega
    exact .inr (State.distance_lt.2 (.inr ⟨by simp [hempty, hq], .inr ⟨by simp [State.waiting, hempty, hq], hpatience⟩⟩))

/-- One edge of an asking host makes the block ready or brings it nearer to accepting. -/
theorem State.ready_or_distance_next : s.next.cmdReady = true ∨ s.next.distance < s.distance := by
  by_cases hq : s.queue = []
  · exact State.ready_or_distance_next_of_empty hp hready hq
  · cases hv : s.rspValid with
    | false => exact .inr (State.distance_next_of_waiting hp hready hv hq)
    | true => exact .inr (State.distance_next_of_presented hp hready hv hq)

end

/-- An asking host finds every state ready after finitely many edges, by induction on its distance from accepting. -/
theorem State.getsReady (c : Command) (s : State) : s.GetsReady c := by
  cases hready : s.cmdReady with
  | true => exact State.getsReady_of_cmdReady hready
  | false =>
    refine State.getsReady_of_next ?_
    obtain hnext | hlt := State.ready_or_distance_next (s := s.withHost [.asking c]) rfl hready
    · exact State.getsReady_of_cmdReady hnext
    · exact State.getsReady c _
termination_by s.distance
decreasing_by exact hlt

/-- Settles O58: the host asks until the block is ready, and once more to have its command accepted. The number of edges
is bounded in every state, whether or not it meets the invariant. -/
theorem heldCommandIsAccepted : Obligations.HeldCommandIsAccepted := by
  intro s c _
  obtain ⟨k, hk⟩ := s.getsReady c
  refine ⟨k + 1, fun later => ?_⟩
  obtain ⟨t, hrun, hready, hhost⟩ := hk (Pins.asking c :: later)
  refine ⟨k, t, Nat.lt_succ_self k, ?_, ?_⟩
  · rw [List.replicate_succ', List.append_assoc]
    exact hrun
  · simp [State.acceptedNow, State.accepts, State.pins_cons hhost, hready, Pins.asking]

end Sys2Proof.Machine

/-!
SUPPORT. The two statements of `20_memory.md`: responses in the order of acceptance (R46), and commands that are not accepted (R43).
-/

namespace Sys2Proof.Machine

/-! ### The order of the responses (R46) -/

/-- The command whose response is delivered at the coming edge, if any: the head of `Q` (R30). -/
def State.answeredNow (s : State) : List Command := if s.delivers then s.queue.take 1 else []

/-- What is delivered leaves the front of `Q`. -/
theorem State.answeredNow_append_undelivered (s : State) : s.answeredNow ++ s.undelivered = s.queue := by
  rw [State.answeredNow, State.undelivered]
  split
  · rw [← List.drop_one, List.take_append_drop]
  · rfl

/-- What is accepted joins the back of `Q`. -/
theorem State.queueAfter_eq_append (s : State) : s.queueAfter = s.undelivered ++ s.acceptedNow := by
  cases ha : s.accepts <;> simp [State.queueAfter, State.acceptedNow, ha]

/-- A step without reset loses no command and keeps their order: those answered and then those in flight after it are those in
flight before it and then the one accepted. -/
theorem State.queue_append_acceptedNow {s : State} (hr : s.pins.rst = false) :
    s.queue ++ s.acceptedNow = s.answeredNow ++ s.next.queue := by
  rw [State.next_queue, State.edge_run hr, State.runEdge_queue, State.queueAfter_eq_append, ← List.append_assoc,
    State.answeredNow_append_undelivered]

/-- The response delivered answers the command that leaves `Q`. -/
theorem State.Inv.answers_deliveredNow {s : State} (h : s.Inv) : List.Forall₂ Answers s.answeredNow s.deliveredNow := by
  rw [State.answeredNow, State.deliveredNow]
  split
  case isTrue hd =>
    obtain ⟨⟨-, hv⟩, -⟩ : (s.pins.rst = false ∧ s.rspValid = true) ∧ s.pins.rspReady = true := by
      simpa [State.delivers] using hd
    obtain ⟨c, rest, hq, hans⟩ := h.presented hv
    rw [hq]
    exact .cons hans .nil
  case isFalse => exact .nil

theorem trace_succ (n : ℕ) (s : State) : trace (n + 1) s =
    (trace n s.next).map fun r => ⟨s.acceptedNow ++ r.accepted, s.deliveredNow ++ r.delivered, r.final⟩ := by
  rw [trace, step_eq_next]

/-- Settles O56, by induction on the number of steps: each step keeps the invariant, hands the commands on in order and delivers
the answer of the one it takes off `Q`. -/
theorem responsesFollowTheOrderOfAcceptance : Obligations.ResponsesFollowTheOrderOfAcceptance := by
  intro n
  induction n with
  | zero => exact fun s _ _ => ⟨⟨[], [], s⟩, [], rfl, by simp, .nil⟩
  | succ n ih =>
    intro s hs hrun
    obtain ⟨hr, hrun'⟩ := State.unreset_succ hrun
    obtain ⟨r, answered, htrace, horder, hans⟩ := ih s.next hs.next hrun'
    refine ⟨_, s.answeredNow ++ answered, by rw [trace_succ, htrace]; rfl, ?_, List.rel_append hs.answers_deliveredNow hans⟩
    calc s.queue ++ (s.acceptedNow ++ r.accepted)
        = s.answeredNow ++ (s.next.queue ++ r.accepted) := by
          rw [← List.append_assoc, State.queue_append_acceptedNow hr, List.append_assoc]
      _ = (s.answeredNow ++ answered) ++ r.final.queue := by rw [horder, List.append_assoc]

/-! ### A command that is not accepted (R43) -/

/-- The pins with another `cmd_valid` and other command words. -/
def Pins.offering (p : Pins) (v : Bool) (c : Command) : Pins := { p with cmdValid := v, command := c }

/-- The state with another value of the counter `held`. -/
def State.withHeld (s : State) (h : ℕ) : State := { s with held := h }

theorem State.withHost_of_eq {s : State} {pins : List Pins} (h : s.host = pins) : s.withHost pins = s := by
  rw [← h]; rfl

/-- Presentation does not read `held`. -/
theorem State.presentDue_withHeld (s : State) (h : ℕ) : (s.withHeld h).presentDue = s.presentDue.withHeld h := by
  have hdue : (s.withHeld h).due = s.due := rfl
  cases hd : s.due with
  | none => rw [State.presentDue_of_none (hdue.trans hd), State.presentDue_of_none hd]
  | some c =>
    rw [State.presentDue_of_due (hdue.trans hd), State.presentDue_of_due hd]
    cases execReply c <;> rfl

/-- The counter `held` after the edge, as the edge would have it for a host with this `cmd_valid`. -/
def State.heldAfter (s : State) (v : Bool) : ℕ :=
  if s.pins.rst then 0 else if s.holdsBack && v then s.heldBefore + 1 else s.heldBefore

theorem State.edge_held (s : State) : s.edge.held = s.heldAfter s.pins.cmdValid := by
  cases hr : s.pins.rst
  · simp [State.heldAfter, hr, State.edge_run hr]
  · simp [State.heldAfter, hr, State.edge_reset hr]

section
variable {s : State} (h : s.accepts = false)
include h

theorem State.queueAfter_of_not_accepts : s.queueAfter = s.undelivered := by simp [State.queueAfter, h]
theorem State.epochAfter_of_not_accepts : s.epochAfter = s.epoch := by simp [State.epochAfter, h]
theorem State.heldBefore_of_not_accepts : s.heldBefore = s.held := by simp [State.heldBefore, h]

/-- The hold on `cmd_ready` at an edge that accepts nothing. -/
theorem State.holdsBack_of_not_accepts : s.holdsBack =
    (decide (s.undelivered.length < Config.depth) && Config.holdsBack s.draws &&
      decide (s.held < Config.holdLimit s.epoch)) := by
  rw [State.holdsBack, State.hasRoom, State.queueAfter_of_not_accepts h, State.epochAfter_of_not_accepts h,
    State.heldBefore_of_not_accepts h]

end

section
variable {s : State} {p : Pins} {ps : List Pins} {v : Bool} {c : Command}
  (hp : (s.withHost (p :: ps)).accepts = false) (hp' : (s.withHost (p.offering v c :: ps)).accepts = false)
include hp hp'

/-- Two edges that accept nothing, the other inputs being equal, differ in `held` alone. -/
theorem State.edge_offering : (s.withHost (p.offering v c :: ps)).edge =
    (s.withHost (p :: ps)).edge.withHeld ((s.withHost (p :: ps)).heldAfter v) := by
  have hrst : (s.withHost (p :: ps)).pins.rst = p.rst := rfl
  have hrst' : (s.withHost (p.offering v c :: ps)).pins.rst = p.rst := rfl
  rw [State.heldAfter, hrst]
  cases hr : p.rst
  · rw [State.edge_run (hrst.trans hr), State.edge_run (hrst'.trans hr)]
    simp only [State.runEdge, State.waitAfter, State.hasRoom, State.queueAfter_of_not_accepts, State.epochAfter_of_not_accepts,
      State.heldBefore_of_not_accepts, State.holdsBack_of_not_accepts, hp, hp']
    rfl
  · rw [State.edge_reset (hrst.trans hr), State.edge_reset (hrst'.trans hr)]
    rfl

/-- Two steps that accept nothing, the other inputs being equal, differ in `held` alone. -/
theorem State.next_offering : (s.withHost (p.offering v c :: ps)).next =
    (s.withHost (p :: ps)).next.withHeld ((s.withHost (p :: ps)).heldAfter v) := by
  rw [State.next, State.edge_offering hp hp', State.presentDue_withHeld, State.next]

end

/-- Nothing is accepted at an edge with `rst = 1`, `cmd_valid = 0` or `cmd_ready = 0` (R29). -/
theorem State.accepts_withHost_eq_false {s : State} {p : Pins} {ps : List Pins} :
    (s.withHost (p :: ps)).accepts = false ↔ p.rst = true ∨ p.cmdValid = false ∨ s.cmdReady = false := by
  simp [State.accepts, State.pins, State.withHost, or_assoc, imp_iff_not_or]

/-- Settles O52: with nothing accepted, the next state differs in `held` alone, which reads `cmd_valid` and none of the words. -/
theorem unacceptedCommandHasNoEffect : Obligations.UnacceptedCommandHasNoEffect := by
  refine ⟨fun s p ps c hhost h => ?_, fun s p ps c v hhost h => ?_⟩ <;> rw [step_eq_next s]
  · have hnext := State.next_offering (v := p.cmdValid) (c := c) (State.accepts_withHost_eq_false (ps := ps).2 h)
      (State.accepts_withHost_eq_false.2 h)
    have hheld : s.heldAfter p.cmdValid = s.next.held := by
      rw [State.next_held, State.edge_held, State.pins_cons hhost]
    rw [State.withHost_of_eq hhost, hheld] at hnext
    exact step_next_iff.2 hnext
  · have h' (w : Bool) : p.rst = true ∨ w = false ∨ s.cmdReady = false := h.imp_right .inr
    have hnext := State.next_offering (v := v) (c := c) (State.accepts_withHost_eq_false (ps := ps).2 (h' p.cmdValid))
      (State.accepts_withHost_eq_false.2 (h' v))
    rw [State.withHost_of_eq hhost] at hnext
    exact ⟨s.next, _, rfl, step_next_iff.2 hnext⟩

end Sys2Proof.Machine

/-!
SUPPORT. The words of each row of the opcode map (R55 to R59), and the statements of `30_encoding.md`.
-/

namespace Sys2Proof

/-! ### A word and its fields (R55) -/

/-- The bits that must be zero, `[31:21]`, `[15:13]` and `[7]` (R55), side by side. -/
def spareBits (w : Word) : BitVec 15 := w.extractLsb' 21 11 ++ w.extractLsb' 13 3 ++ w.extractLsb' 7 1

theorem toNat_append_eq_add {n m : ℕ} (x : BitVec n) (y : BitVec m) : (x ++ y).toNat = x.toNat * 2 ^ m + y.toNat := by
  rw [BitVec.toNat_append, ← Nat.shiftLeft_add_eq_or_of_lt y.isLt, Nat.shiftLeft_eq]

theorem packWord_toNat (op : Bits5) (strat : BitVec 2) (F B : Bits5) :
    (packWord op strat F B).toNat = op.toNat + 2 ^ 5 * strat.toNat + 2 ^ 8 * F.toNat + 2 ^ 16 * B.toNat := by
  unfold packWord
  simp only [toNat_append_eq_add, BitVec.toNat_ofNat]
  omega

/-- A word is packed from its own four fields and from no others, and only where its spare bits are zero. -/
theorem eq_packWord_iff {w : Word} {op : Bits5} {strat : BitVec 2} {F B : Bits5} : w = packWord op strat F B ↔
    fieldOp w = op ∧ fieldStrat w = strat ∧ fieldF w = F ∧ fieldB w = B ∧ spareBits w = 0#15 := by
  simp only [← BitVec.toNat_inj, packWord_toNat, fieldOp, fieldStrat, fieldF, fieldB, spareBits, toNat_append_eq_add,
    BitVec.extractLsb'_toNat, Nat.shiftRight_eq_div_pow, BitVec.toNat_ofNat]
  omega

@[simp] theorem fields_packWord (op : Bits5) (strat : BitVec 2) (F B : Bits5) :
    fieldOp (packWord op strat F B) = op ∧ fieldStrat (packWord op strat F B) = strat ∧
      fieldF (packWord op strat F B) = F ∧ fieldB (packWord op strat F B) = B := by
  obtain ⟨hop, hstrat, hF, hB, -⟩ := eq_packWord_iff.1 (rfl : packWord op strat F B = _)
  exact ⟨hop, hstrat, hF, hB⟩

section
variable (w v : Word)

theorem fieldOp_and : fieldOp (w &&& v) = fieldOp w &&& fieldOp v := BitVec.extractLsb'_and
theorem fieldStrat_and : fieldStrat (w &&& v) = fieldStrat w &&& fieldStrat v := BitVec.extractLsb'_and
theorem fieldF_and : fieldF (w &&& v) = fieldF w &&& fieldF v := BitVec.extractLsb'_and
theorem fieldB_and : fieldB (w &&& v) = fieldB w &&& fieldB v := BitVec.extractLsb'_and
theorem spareBits_and : spareBits (w &&& v) = spareBits w &&& spareBits v := by
  unfold spareBits
  rw [BitVec.extractLsb'_and, BitVec.extractLsb'_and, BitVec.extractLsb'_and, ← BitVec.and_append, ← BitVec.and_append]

end

/-! ### The use of a field by a format (R57, R59) -/

/-- What a format does with one of the fields `word[12:8]` and `word[20:16]` (R57): the field must be zero, or it is a
fractional-bit count, which R59 checks, or it is a shift amount, which R59 does not check. -/
inductive FieldUse where
  | unused
  | count
  | amount

/-- The bits of the field in the mask of the format (R57). -/
def FieldUse.mask : FieldUse → Bits5
  | .unused => BitVec.allOnes 5
  | .count | .amount => 0

/-- The value of the field in the word of a command: 0 where the format does not use it. -/
def FieldUse.keep : FieldUse → Bits5 → Bits5
  | .unused, _ => 0
  | .count, x | .amount, x => x

/-- The values of the field in a legal word (R59). -/
def FieldUse.legal : FieldUse → Finset Bits5
  | .unused => {0}
  | .count => {F | legalCount F = true}
  | .amount => .univ

/-- The number of legal values of a field (R59). -/
def FieldUse.legalNumber : FieldUse → ℕ
  | .unused => 1
  | .count => 30
  | .amount => 32

/-- The use of `word[12:8]` (R57). -/
def Format.useF : Format → FieldUse
  | .S | .C | .T => .count
  | .H | .N => .unused

/-- The use of `word[20:16]` (R57). -/
def Format.useB : Format → FieldUse
  | .C => .count
  | .H => .amount
  | .S | .T | .N => .unused

@[simp] theorem FieldUse.keep_keep (u : FieldUse) (x : Bits5) : u.keep (u.keep x) = u.keep x := by cases u <;> rfl

theorem FieldUse.and_mask_eq_zero_iff (u : FieldUse) (x : Bits5) : x &&& u.mask = 0 ↔ x = u.keep x := by
  cases u with
  | unused => exact BitVec.and_allOnes ▸ Iff.rfl
  | count | amount => exact iff_of_true BitVec.and_zero rfl

theorem FieldUse.keep_of_mem_legal {u : FieldUse} {x : Bits5} (h : x ∈ u.legal) : u.keep x = x := by
  cases u with
  | unused => exact (Finset.mem_singleton.1 h).symm
  | count | amount => rfl

theorem FieldUse.card_legal (u : FieldUse) : u.legal.card = u.legalNumber := by
  cases u <;> decide

/-- The mask of a format fixes `op`, `strat`, the spare bits and the fields it does not use. -/
theorem Format.fields_mask (f : Format) : fieldOp f.mask = BitVec.allOnes 5 ∧ fieldStrat f.mask = BitVec.allOnes 2 ∧
    fieldF f.mask = f.useF.mask ∧ fieldB f.mask = f.useB.mask ∧ spareBits f.mask = BitVec.allOnes 15 := by
  cases f <;> decide

/-- The test of R58 as a condition on the fields: the masked word is a match value exactly when the word is packed from that `op`
and `strat` and from the fields that the format uses. -/
theorem Format.and_mask_eq_iff (f : Format) (w : Word) (op : Bits5) (strat : BitVec 2) :
    w &&& f.mask = packWord op strat 0 0 ↔ w = packWord op strat (f.useF.keep (fieldF w)) (f.useB.keep (fieldB w)) := by
  obtain ⟨hop, hstrat, hF, hB, hspare⟩ := f.fields_mask
  simp only [eq_packWord_iff, fieldOp_and, fieldStrat_and, fieldF_and, fieldB_and, spareBits_and, hop, hstrat, hF, hB, hspare,
    BitVec.and_allOnes, FieldUse.and_mask_eq_zero_iff]

/-! ### The rows of the opcode map (R58) -/

/-- The word of a row with these fields. -/
def Row.word (r : Row) (F B : Bits5) : Word := packWord (fieldOp r.matchBits) (fieldStrat r.matchBits) F B

theorem opcodeTable_matchBits_nodup : (opcodeTable.map Row.matchBits).Nodup := by decide

section
variable {r : Row} (hr : r ∈ opcodeTable)
include hr

/-- A match value holds nothing but `op` and `strat`. -/
theorem Row.matchBits_eq_word : r.matchBits = r.word 0 0 :=
  (by decide : ∀ r ∈ opcodeTable, r.matchBits = r.word 0 0) r hr

theorem Row.selects_iff {w : Word} :
    r.selects w = true ↔ w = r.word (r.format.useF.keep (fieldF w)) (r.format.useB.keep (fieldB w)) := by
  rw [Row.selects, beq_iff_eq, Row.matchBits_eq_word hr]
  exact r.format.and_mask_eq_iff ..

/-- The command of a row does not depend on the fields that its format does not use. -/
theorem Row.build_keep (F B : Bits5) : r.build (r.format.useF.keep F) (r.format.useB.keep B) = r.build F B := by
  fin_cases hr <;> rfl

/-- The encoder writes the word of the command's row. -/
theorem Row.encode_build (F B : Bits5) :
    encode (r.build F B) = r.word (r.format.useF.keep F) (r.format.useB.keep B) := by
  fin_cases hr <;> rfl

/-- The field checks of R59 by row: each field is legal for its use. -/
theorem Row.wellFormed_build_iff (F B : Bits5) : (r.build F B).wellFormed = true ↔
    r.format.useF.keep F ∈ r.format.useF.legal ∧ r.format.useB.keep B ∈ r.format.useB.legal := by
  fin_cases hr <;> simp [Instr.wellFormed, Format.useF, Format.useB, FieldUse.keep, FieldUse.legal]

/-- No two rows have both `op` and `strat` in common. -/
theorem Row.eq_of_fields {r' : Row} (hr' : r' ∈ opcodeTable) (hop : fieldOp r.matchBits = fieldOp r'.matchBits)
    (hstrat : fieldStrat r.matchBits = fieldStrat r'.matchBits) : r = r' := by
  refine List.inj_on_of_nodup_map opcodeTable_matchBits_nodup hr hr' ?_
  rw [Row.matchBits_eq_word hr, Row.matchBits_eq_word hr', Row.word, Row.word, hop, hstrat]

/-- The words of two rows are different, and so are those of one row with different fields. -/
theorem Row.word_inj {r' : Row} (hr' : r' ∈ opcodeTable) {F B F' B' : Bits5} :
    r.word F B = r'.word F' B' ↔ r = r' ∧ F = F' ∧ B = B' := by
  refine ⟨fun h => ?_, by rintro ⟨rfl, rfl, rfl⟩; rfl⟩
  obtain ⟨hop, hstrat, hF, hB, -⟩ := eq_packWord_iff.1 h
  simp only [Row.word, fields_packWord] at hop hstrat hF hB
  exact ⟨Row.eq_of_fields hr hr' hop hstrat, hF, hB⟩

/-- A word is selected by at most one row. -/
theorem Row.selects_unique {r' : Row} (hr' : r' ∈ opcodeTable) {w : Word} (h : r.selects w = true)
    (h' : r'.selects w = true) : r = r' :=
  ((Row.word_inj hr hr').1 (((Row.selects_iff hr).1 h).symm.trans ((Row.selects_iff hr').1 h'))).1

end

/-- Every command is built by a row. -/
theorem exists_build_eq (i : Instr) : ∃ r ∈ opcodeTable, ∃ F B, r.build F B = i := by
  simp only [opcodeTable, multiplyDivideRows, rescaleRows, auxiliaryRows, comparisonRows, List.cons_append, List.nil_append,
    List.exists_mem_cons_iff]
  cases i <;> simp

/-! ### The decoder and the encoder -/

/-- The decoder's search finds the row that selects the word, wherever that row stands in the table. -/
theorem find?_selects_eq_some_iff {w : Word} {r : Row} :
    opcodeTable.find? (fun r => r.selects w) = some r ↔ r ∈ opcodeTable ∧ r.selects w = true := by
  have hfound {r : Row} (h : opcodeTable.find? (fun r => r.selects w) = some r) : r ∈ opcodeTable ∧ r.selects w = true :=
    ⟨List.mem_of_find?_eq_some h, by simpa using List.find?_some h⟩
  refine ⟨hfound, fun ⟨hr, hsel⟩ => ?_⟩
  obtain ⟨r', hr'⟩ := Option.isSome_iff_exists.1 (List.find?_isSome (p := fun r : Row => r.selects w).2 ⟨r, hr, hsel⟩)
  obtain ⟨hmem, hsel'⟩ := hfound hr'
  rw [hr', Row.selects_unique hmem hr hsel' hsel]

/-- A word decodes to the command of the row that selects it (R58). -/
theorem decode_eq_ok_iff {w : Word} {i : Instr} :
    decode w = .ok i ↔ ∃ r ∈ opcodeTable, r.selects w = true ∧ i = r.build (fieldF w) (fieldB w) := by
  simp only [← and_assoc, ← find?_selects_eq_some_iff, decode]
  cases opcodeTable.find? (fun r => r.selects w) <;> simp [eq_comm]

theorem decode_word {r : Row} (hr : r ∈ opcodeTable) (F B : Bits5) :
    decode (r.word (r.format.useF.keep F) (r.format.useB.keep B)) = .ok (r.build F B) :=
  decode_eq_ok_iff.2 ⟨r, hr, by simp [Row.selects_iff hr, Row.word], by simp [Row.word, Row.build_keep hr]⟩

/-- Settles O1: a command's word is that of its row with the fields the format uses, and the row builds the command from these. -/
theorem decodeInvertsEncode : Obligations.DecodeInvertsEncode := by
  intro i
  obtain ⟨r, hr, F, B, rfl⟩ := exists_build_eq i
  rw [Row.encode_build hr, decode_word hr]

/-- Settles O2: a row selects no words but those that the encoder writes for its commands. -/
theorem encodeInvertsDecode : Obligations.EncodeInvertsDecode := by
  intro w i h
  obtain ⟨r, hr, hsel, rfl⟩ := decode_eq_ok_iff.1 h
  rw [Row.encode_build hr, ← (Row.selects_iff hr).1 hsel]

/-- Settles O3: a word decodes by the row that selects it, and the map lists the rows of the table. -/
theorem decodeFollowsTheOpcodeMap : Obligations.DecodeFollowsTheOpcodeMap := by
  intro w i
  simp only [decode_eq_ok_iff, opcodeTable, multiplyDivideRows, rescaleRows, auxiliaryRows, comparisonRows, List.cons_append,
    List.nil_append, List.exists_mem_cons_iff, List.not_mem_nil, false_and, exists_false, or_false, Row.selects, beq_iff_eq,
    Format.mask, fieldF, fieldB]

/-! ### The legal words (R59, R60) -/

theorem legalWord_iff_decode {w : Word} : legalWord w = true ↔ ∃ i, decode w = .ok i ∧ i.wellFormed = true := by
  cases h : decode w <;> simp [legalWord, h]

/-- The legal words are those of the rows with legal fields. -/
theorem legalWord_iff {w : Word} : legalWord w = true ↔
    ∃ r ∈ opcodeTable, ∃ F ∈ r.format.useF.legal, ∃ B ∈ r.format.useB.legal, r.word F B = w := by
  rw [legalWord_iff_decode]
  constructor
  · rintro ⟨i, hdec, hwf⟩
    obtain ⟨r, hr, hsel, rfl⟩ := decode_eq_ok_iff.1 hdec
    obtain ⟨hF, hB⟩ := (Row.wellFormed_build_iff hr ..).1 hwf
    exact ⟨r, hr, _, hF, _, hB, ((Row.selects_iff hr).1 hsel).symm⟩
  · rintro ⟨r, hr, F, hF, B, hB, rfl⟩
    have hkeepF := FieldUse.keep_of_mem_legal hF
    have hkeepB := FieldUse.keep_of_mem_legal hB
    exact ⟨r.build F B, by simpa [hkeepF, hkeepB] using decode_word hr F B,
      (Row.wellFormed_build_iff hr F B).2 ⟨hkeepF.symm ▸ hF, hkeepB.symm ▸ hB⟩⟩

/-- The places in the opcode map, each with the legal fields of the row there. -/
def legalPlaces : Finset (Σ _ : Fin opcodeTable.length, Bits5 × Bits5) :=
  Finset.univ.sigma fun k => opcodeTable[k].format.useF.legal ×ˢ opcodeTable[k].format.useB.legal

/-- The word with these fields of the row at this place. -/
def wordAt (x : Σ _ : Fin opcodeTable.length, Bits5 × Bits5) : Word := opcodeTable[x.1].word x.2.1 x.2.2

/-- Twelve rows of formats S and T with 30 words each, CVT with 900, two shifts with 32 and ten rows of format N with one. -/
theorem card_legalPlaces : legalPlaces.card = 1334 := by
  simp only [legalPlaces, Finset.card_sigma, Finset.card_product, FieldUse.card_legal]
  rfl

theorem wordAt_injective : Function.Injective wordAt := by
  rintro ⟨k, F, B⟩ ⟨k', F', B'⟩ h
  obtain ⟨hrow, rfl, rfl⟩ := (Row.word_inj (List.getElem_mem _) (List.getElem_mem _)).1 h
  obtain rfl : k = k' := Fin.ext ((opcodeTable_matchBits_nodup.of_map _).getElem_inj_iff.1 hrow)
  rfl

theorem setOf_legalWord_eq : {w : Word | legalWord w = true} = legalPlaces.image wordAt := by
  ext w
  rw [Set.mem_ofPred_eq, legalWord_iff, Finset.coe_image]
  constructor
  · rintro ⟨r, hr, F, hF, B, hB, rfl⟩
    obtain ⟨k, rfl⟩ := List.mem_iff_get.1 hr
    exact ⟨⟨k, F, B⟩, by simpa [legalPlaces] using ⟨hF, hB⟩, rfl⟩
  · rintro ⟨⟨k, F, B⟩, hx, rfl⟩
    obtain ⟨hF, hB⟩ : F ∈ opcodeTable[k].format.useF.legal ∧ B ∈ opcodeTable[k].format.useB.legal := by
      simpa [legalPlaces] using hx
    exact ⟨opcodeTable[k], List.getElem_mem _, F, hF, B, hB, rfl⟩

/-- Settles O5: the legal words are, one for one, the rows with legal fields. -/
theorem legalWordCount : Obligations.LegalWordCount := by
  rw [Obligations.LegalWordCount, setOf_legalWord_eq, Set.ncard_coe_finset, Finset.card_image_of_injective _ wordAt_injective,
    card_legalPlaces]

/-- Settles O6, by evaluating the decoder. -/
theorem exampleWordsDecode : Obligations.ExampleWordsDecode := ⟨rfl, rfl, rfl, rfl, rfl, rfl⟩

/-- Settles O7, by evaluating the encoder. -/
theorem pseudoCommandWords : Obligations.PseudoCommandWords := ⟨⟨rfl, rfl⟩, ⟨rfl, rfl⟩, ⟨rfl, rfl⟩, ⟨rfl, rfl⟩⟩

end Sys2Proof

namespace Sys2Proof.Machine

/-! ### Illegal counts (R59) -/

theorem replyTo_of_illegal {i : Instr} (h : i.wellFormed = false) (a b : Word) : replyTo i a b = .raises .illegalCommand := by
  simp [replyTo, h]

/-- Only the check of R59 answers `ILLEGAL`. -/
theorem replyTo_ne_illegal {i : Instr} (h : i.wellFormed = true) (a b : Word) : replyTo i a b ≠ .raises .illegalCommand := by
  rw [replyTo, if_pos h, checkDivisor]
  split_ifs <;> simp

theorem State.respond_rspStatus_eq_illegal_iff (s : State) (r : Reply) :
    (s.respond r).rspStatus = 0b10 ↔ r = .raises .illegalCommand := by
  cases r with
  | value v => simp [State.respond]
  | raises f => cases f <;> simp [State.respond, BlockFault.status, Status.code]

/-- Settles O40: the counts out of range are those that fail the check of R59, and only that check answers `ILLEGAL`. -/
theorem illegalExactlyOnCountsOutOfRange : Obligations.IllegalExactlyOnCountsOutOfRange := by
  intro i s c rest hq out fails
  have hfails : fails ↔ i.wellFormed = false := by
    cases i <;> simp [fails, out, Instr.wellFormed, ← Bool.not_eq_true, imp_iff_not_or]
  rw [hfails, Bool.not_eq_false, exec_eq_answer, AnswersFault, exec_eq_answer, State.answer_cons hq]
  refine ⟨fun h => ⟨Config.faultResult s.draws, s.draws + 1, by rw [replyTo_of_illegal h]; rfl⟩, fun h => ⟨_, rfl, ?_⟩⟩
  exact (s.respond_rspStatus_eq_illegal_iff _).not.2 (replyTo_ne_illegal h c.a c.b)

/-! ### Lines and listings (R64, R65) -/

/-- Settles O59, by evaluating the six lines. -/
theorem assemblySyntaxExamples : Obligations.AssemblySyntaxExamples := ⟨rfl, rfl, rfl, rfl, rfl, rfl⟩

/-- A line whose operands have words is answered by `Exec`, and the lines after it run with its name (R65). -/
theorem runListing_cons {names : List (ℕ × Word)} {l : ListingLine} {a b : Word} (ha : operandWord names l.a = some a)
    (hb : operandWord names l.b = some b) (ls : List ListingLine) : runListing names (l :: ls) =
      (runListing (namesAfter l (execReply ⟨l.word, a, b⟩) names) ls).map (execReply ⟨l.word, a, b⟩ :: ·) := by
  simp [runListing, ha, hb]

/-- Settles O60: the first line leaves the one name, or none, with which the second line looks up its operand. -/
theorem listingNamesAreResults : Obligations.ListingNamesAreResults := by
  intro k l m a b hname hla hlb hma hmb
  have ha : operandWord [] l.a = some a := by rw [hla]; rfl
  have hb : operandWord [] l.b = some b := by rw [hlb]; rfl
  refine ⟨fun v hv => ?_, fun f hf => ?_⟩
  · have hnames : namesAfter l (.value v) [] = [(k, v)] := by simp [namesAfter, hname]
    have hm : operandWord [(k, v)] m.a = some v := by simp [hma, operandWord]
    have hm' : operandWord [(k, v)] m.b = some 0 := by simp [hmb, operandWord]
    rw [runListing_cons ha hb, hv, hnames, runListing_cons hm hm']
    rfl
  · have hnames : namesAfter l (.raises f) [] = [] := by simp [namesAfter, hname]
    have hm : operandWord [] m.a = none := by simp [hma, operandWord]
    rw [runListing_cons ha hb, hf, hnames]
    simp [runListing, hm]

end Sys2Proof.Machine

/-!
SUPPORT. The three multiplies as roundings of the exact raw product (R71 to R76), and the statements of `40_multiply.md`.
-/

namespace Sys2Proof

/-- A row of the opcode map selects its words (R58). -/
theorem Row.selects_build {r : Row} (hr : r ∈ opcodeTable) : Machine.Selects r.format.mask r.matchBits r.build :=
  fun _ hw => decode_eq_ok_iff.2 ⟨r, hr, beq_iff_eq.2 hw, rfl⟩

end Sys2Proof

namespace Sys2Proof.Machine

/-! ### Words and their readings -/

@[simp] theorem wrap32_u32 (w : Word) : wrap32 (u32 w) = w := by simp [u32]

/-- A word is its magnitude with its sign. -/
theorem s32_eq_ite_natAbs (w : Word) : s32 w = if signBit w then -((s32 w).natAbs : ℤ) else (s32 w).natAbs := by
  simp only [signBit_iff]
  split <;> omega

/-- The product of two words is the product of their magnitudes with the combined sign (R72). -/
theorem s32_mul_s32 (a b : Word) : s32 a * s32 b =
    if signBit a ≠ signBit b then -(((s32 a).natAbs * (s32 b).natAbs : ℕ) : ℤ)
    else ((s32 a).natAbs * (s32 b).natAbs : ℕ) := by
  rw [s32_eq_ite_natAbs a, s32_eq_ite_natAbs b]
  cases signBit a <;> cases signBit b <;> simp

/-- `ONE` is a positive word (R8). -/
theorem s32_oneRaw {F : ℕ} (hF : F ≤ 30) : s32 (BitVec.ofNat 32 (2 ^ F)) = 2 ^ F := by
  have hlt : (2 : ℤ) ^ F ≤ 2 ^ 30 := pow_le_pow_right₀ (by norm_num) hF
  have hpos : (0 : ℤ) < 2 ^ F := by positivity
  rw [← wrap32_natCast, Nat.cast_pow, Nat.cast_ofNat, s32_wrap32_of_fits] <;> omega

/-! ### Rounding a raw product -/

/-- `floor((z + ROUND) / 2^F)`: `z / 2^F` to the nearest integer, ties toward positive infinity (R71). -/
def halfUp (F : ℕ) (z : ℤ) : ℤ := (z + 2 ^ (F - 1)) / 2 ^ F

/-- `z / 2^F` to the nearest integer, ties away from zero: the magnitude rounded, with the sign reapplied (R72). -/
def halfAway (F : ℕ) (z : ℤ) : ℤ := z.sign * halfUp F |z|

@[simp] theorem halfAway_neg (F : ℕ) (z : ℤ) : halfAway F (-z) = -halfAway F z := by
  simp [halfAway]

theorem halfUp_natCast (F z : ℕ) : halfUp F z = ((z + 2 ^ (F - 1)) / 2 ^ F : ℕ) := by
  simp [halfUp]

section
variable {F : ℕ} (hF : 1 ≤ F) (z : ℤ)
include hF

theorem two_pow_eq_round_add_round : (2 : ℤ) ^ F = 2 ^ (F - 1) + 2 ^ (F - 1) := by
  rw [← two_mul, mul_pow_sub_one (by omega)]

/-- The integer that half up rounds to, by its distance from the quotient. -/
theorem halfUp_eq_of_bounds {z q : ℤ} (h : -2 ^ (F - 1) ≤ z - q * 2 ^ F) (h' : z - q * 2 ^ F < 2 ^ (F - 1)) :
    halfUp F z = q := by
  have := two_pow_eq_round_add_round hF
  rw [halfUp, Int.ediv_eq_iff_of_pos (by positivity)]
  constructor <;> linarith

/-- Half up is the floor, or one more where the discarded part is half an ulp or more (R74). -/
theorem halfUp_eq_floor_add : halfUp F z = z / 2 ^ F + if 2 ^ (F - 1) ≤ z % 2 ^ F then 1 else 0 := by
  have hround := two_pow_eq_round_add_round hF
  have hpos : (0 : ℤ) < 2 ^ F := by positivity
  have hlt := Int.emod_lt_of_pos z hpos
  have hnonneg := Int.emod_nonneg z hpos.ne'
  have hz := Int.emod_add_ediv_mul z (2 ^ F)
  apply halfUp_eq_of_bounds hF <;> split <;> linarith

theorem halfUp_eq_floor : halfUp F z = ⌊(z : ℚ) / 2 ^ F + 1 / 2⌋ := by
  have hhalf : (z : ℚ) / 2 ^ F + 1 / 2 = ((z + 2 ^ (F - 1) : ℤ) : ℚ) / (2 ^ F : ℕ) := by
    push_cast
    rw [← mul_pow_sub_one (by omega : F ≠ 0) (2 : ℚ)]
    field_simp
  rw [hhalf, Rat.floor_intCast_div_natCast, halfUp]
  norm_num

theorem halfUp_mul_two_pow : halfUp F (z * 2 ^ F) = z := halfUp_eq_of_bounds hF (by simp) (by simp)

/-- The rounding of a negated product is the negated rounding but on a tie, which rounds up both times. -/
theorem halfUp_neg : halfUp F (-z) = -halfUp F z + if z % 2 ^ F = 2 ^ (F - 1) then 1 else 0 := by
  have hround := two_pow_eq_round_add_round hF
  have hpos : (0 : ℤ) < 2 ^ F := by positivity
  have hlt := Int.emod_lt_of_pos z hpos
  have hnonneg := Int.emod_nonneg z hpos.ne'
  have hz := Int.emod_add_ediv_mul z (2 ^ F)
  rw [halfUp_eq_floor_add hF z]
  obtain hr | hr | hr := lt_trichotomy (z % 2 ^ F) (2 ^ (F - 1))
  · apply halfUp_eq_of_bounds hF <;> simp only [hr.not_ge, hr.ne, if_false] <;> linarith
  · apply halfUp_eq_of_bounds hF <;> simp only [hr, le_refl, if_true] <;> linarith
  · apply halfUp_eq_of_bounds hF <;> simp only [hr.le, hr.ne', if_true, if_false] <;> linarith

/-- Rounding a number of 32 signed bits gives one of 32 signed bits. -/
theorem halfUp_fits {z : ℤ} (h : -(2 ^ 31) ≤ z) (h' : z ≤ 2 ^ 31 - 1) :
    -(2 ^ 31) ≤ halfUp F z ∧ halfUp F z ≤ 2 ^ 31 - 1 := by
  have hround := two_pow_eq_round_add_round hF
  have hpos : (0 : ℤ) < 2 ^ (F - 1) := by positivity
  rw [halfUp, Int.le_ediv_iff_mul_le (by positivity), Int.ediv_le_iff_le_mul (by positivity)]
  omega

theorem halfUp_nonpos {z : ℤ} (h : z < 0) : halfUp F z ≤ 0 := by
  have hround := two_pow_eq_round_add_round hF
  have hpos : (0 : ℤ) < 2 ^ (F - 1) := by positivity
  rw [halfUp, Int.ediv_le_iff_le_mul (by positivity)]
  omega

theorem halfAway_of_nonneg {z : ℤ} (h : 0 ≤ z) : halfAway F z = halfUp F z := by
  obtain rfl | hpos := h.eq_or_lt
  · simpa [halfAway] using (halfUp_mul_two_pow hF 0).symm
  · rw [halfAway, Int.sign_eq_one_of_pos hpos, one_mul, abs_of_pos hpos]

theorem halfAway_mul_two_pow : halfAway F (z * 2 ^ F) = z := by
  have hpos : (0 : ℤ) < 2 ^ F := by positivity
  rw [halfAway, abs_mul, abs_of_pos hpos, halfUp_mul_two_pow hF, Int.sign_mul, Int.sign_eq_one_of_pos hpos, mul_one,
    Int.sign_mul_abs]

/-- The two roundings are one but on a negative tie, where half up gives one more (R74). -/
theorem halfUp_eq_halfAway_add :
    halfUp F z = halfAway F z + if z < 0 ∧ -z % 2 ^ F = 2 ^ (F - 1) then 1 else 0 := by
  obtain hz | hz := lt_or_ge z 0
  · have hneg := halfUp_neg hF (-z)
    have haway := halfAway_of_nonneg hF (neg_nonneg.2 hz.le)
    rw [halfAway_neg] at haway
    simp only [hz, true_and]
    rw [neg_neg] at hneg
    omega
  · simp [halfAway_of_nonneg hF hz, hz.not_gt]

/-- Rounding away from zero never gives less than the floor. -/
theorem floor_le_halfAway : z / 2 ^ F ≤ halfAway F z := by
  have hup := halfUp_eq_floor_add hF z
  obtain hz | hz := lt_or_ge z 0
  · have hneg := halfUp_neg hF z
    have haway := halfAway_of_nonneg hF (neg_nonneg.2 hz.le)
    rw [halfAway_neg] at haway
    split at hup <;> split at hneg <;> omega
  · rw [halfAway_of_nonneg hF hz, hup]
    split <;> omega

end

/-- The rounding of `P` away from zero, over the rationals (R76). -/
theorem halfAway_eq_sign_mul_floor {F : ℕ} (hF : 1 ≤ F) (z : ℤ) :
    halfAway F z = z.sign * ⌊|(z : ℚ) / 2 ^ F| + 1 / 2⌋ := by
  rw [halfAway, halfUp_eq_floor hF, abs_div, Int.cast_abs, abs_of_pos (by positivity : (0 : ℚ) < 2 ^ F)]

/-! ### MUL.H -/

/-- R71: MUL.H wraps the product rounded half up. -/
theorem mulHigh_eq (F : ℕ) (a b : Word) : mulHigh F a b = wrap32 (halfUp F (s32 a * s32 b)) := by
  simp [mulHigh, sra_eq_ediv, roundRaw, halfUp]

/-- Where the rounded product has 32 signed bits, it is the result of MUL.H (R76). -/
theorem s32_mulHigh {F : ℕ} {a b : Word} (h : -(2 ^ 31) ≤ halfUp F (s32 a * s32 b))
    (h' : halfUp F (s32 a * s32 b) ≤ 2 ^ 31 - 1) :
    s32 (mulHigh F a b) = halfUp F (s32 a * s32 b) := by
  rw [mulHigh_eq, s32_wrap32_of_fits h h']

theorem mulHigh_comm (F : ℕ) (a b : Word) : mulHigh F a b = mulHigh F b a := by
  rw [mulHigh_eq, mulHigh_eq, mul_comm]

/-! ### MUL.M -/

/-- R72: the sum of the four terms for the magnitudes `x` and `y`, of which only the last has lost bits. -/
def splitProduct (F x y : ℕ) : ℕ :=
  x / 2 ^ F * (y / 2 ^ F) * 2 ^ F + x / 2 ^ F * (y % 2 ^ F) + y / 2 ^ F * (x % 2 ^ F) +
    (x % 2 ^ F * (y % 2 ^ F) + 2 ^ (F - 1)) % 2 ^ 32 / 2 ^ F

theorem splitProduct_comm (F x y : ℕ) : splitProduct F x y = splitProduct F y x := by
  rw [splitProduct, splitProduct, mul_comm (x / 2 ^ F) (y / 2 ^ F), mul_comm (x % 2 ^ F) (y % 2 ^ F)]
  omega

/-- Where the product of the fractions does not wrap, the split product is the rounded product (R72). -/
theorem splitProduct_of_fits {F x y : ℕ} (h : x % 2 ^ F * (y % 2 ^ F) + 2 ^ (F - 1) < 2 ^ 32) :
    splitProduct F x y = (x * y + 2 ^ (F - 1)) / 2 ^ F := by
  have hsplit : x * y = x % 2 ^ F * (y % 2 ^ F) +
      2 ^ F * (x / 2 ^ F * (y / 2 ^ F) * 2 ^ F + x / 2 ^ F * (y % 2 ^ F) + y / 2 ^ F * (x % 2 ^ F)) := by
    nth_rw 1 [← Nat.mod_add_div x (2 ^ F), ← Nat.mod_add_div y (2 ^ F)]
    ring
  rw [splitProduct, Nat.mod_eq_of_lt h, hsplit, add_right_comm _ (2 ^ F * _),
    Nat.add_mul_div_left _ _ (by positivity), add_comm]

/-- R72: MUL.M is the split product of the magnitudes with the sign reapplied, each wrap within it being a wrap of the sum. -/
theorem mulMid_eq (F : ℕ) (a b : Word) : mulMid F a b =
    if signBit a ≠ signBit b then -BitVec.ofNat 32 (splitProduct F (s32 a).natAbs (s32 b).natAbs)
    else BitVec.ofNat 32 (splitProduct F (s32 a).natAbs (s32 b).natAbs) := by
  simp only [mulMid, mag32_eq_natAbs, and_fractionMask, srl, roundRaw, splitProduct, wrap32_add, wrap32_mul, wrap32_u32,
    reapplySign_eq, Bool.xor_iff_ne]
  simp only [wrap32_natCast, pow2, u32, ← BitVec.ofNat_mul, ← BitVec.ofNat_add, BitVec.toNat_ofNat]

theorem mulMid_comm (F : ℕ) (a b : Word) : mulMid F a b = mulMid F b a := by
  rw [mulMid_eq, mulMid_eq, splitProduct_comm]
  simp only [ne_comm]

section
variable {F : ℕ} {a b : Word} (hF : 1 ≤ F)
include hF

/-- The product rounded away from zero is the rounded product of the magnitudes with the combined sign. -/
theorem halfAway_mul (a b : Word) : halfAway F (s32 a * s32 b) =
    if signBit a ≠ signBit b then -((((s32 a).natAbs * (s32 b).natAbs + 2 ^ (F - 1)) / 2 ^ F : ℕ) : ℤ)
    else (((s32 a).natAbs * (s32 b).natAbs + 2 ^ (F - 1)) / 2 ^ F : ℕ) := by
  rw [s32_mul_s32, apply_ite (halfAway F), halfAway_neg, halfAway_of_nonneg hF (by positivity), halfUp_natCast]

variable (hfrac : (s32 a).natAbs % 2 ^ F * ((s32 b).natAbs % 2 ^ F) + 2 ^ (F - 1) < 2 ^ 32)
include hfrac

/-- Where the product of the fractions does not wrap, MUL.M wraps the product rounded away from zero (R72). -/
theorem mulMid_eq_wrap32 : mulMid F a b = wrap32 (halfAway F (s32 a * s32 b)) := by
  rw [mulMid_eq, splitProduct_of_fits hfrac, halfAway_mul hF, apply_ite wrap32, wrap32_neg, wrap32_natCast]

/-- Where nothing wraps, MUL.M is the product rounded away from zero (R76). -/
theorem s32_mulMid (hfit : ((s32 a).natAbs * (s32 b).natAbs + 2 ^ (F - 1)) / 2 ^ F ≤ 2 ^ 31 - 1 ∨
      ((s32 a).natAbs * (s32 b).natAbs + 2 ^ (F - 1)) / 2 ^ F = 2 ^ 31 ∧ signBit a ≠ signBit b) :
    s32 (mulMid F a b) = halfAway F (s32 a * s32 b) := by
  rw [mulMid_eq_wrap32 hF hfrac]
  have hmul := halfAway_mul hF a b
  generalize ((s32 a).natAbs * (s32 b).natAbs + 2 ^ (F - 1)) / 2 ^ F = r at hfit hmul
  obtain hs | hs := eq_or_ne (signBit a) (signBit b)
  · have hr : r ≤ 2 ^ 31 - 1 := by simpa [hs] using hfit
    rw [hmul, if_neg (not_not.2 hs), s32_wrap32_of_fits] <;> omega
  · have hr : r ≤ 2 ^ 31 := by omega
    rw [hmul, if_pos hs, s32_wrap32_of_fits] <;> omega

end

/-! ### MUL.L -/

/-- R73: MUL.L shifts the low 32 bits of the product. -/
theorem mulLow_eq (F : ℕ) (a b : Word) : mulLow F a b = (a * b).sshiftRight F := by
  simp only [mulLow, wrap32_mul, wrap32_s32, sra_eq_ediv, BitVec.sshiftRight, Int.shiftRight_eq_div_pow]
  rfl

theorem mulLow_comm (F : ℕ) (a b : Word) : mulLow F a b = mulLow F b a := by
  rw [mulLow_eq, mulLow_eq, mul_comm]

/-- Where the product has 32 signed bits, MUL.L is its floor (R76). -/
theorem s32_mulLow {a b : Word} (F : ℕ) (h : -(2 ^ 31) ≤ s32 a * s32 b) (h' : s32 a * s32 b ≤ 2 ^ 31 - 1) :
    s32 (mulLow F a b) = s32 a * s32 b / 2 ^ F := by
  have hp : (a * b).toInt = s32 a * s32 b := by
    rw [← s32_wrap32_of_fits h h', wrap32_mul, wrap32_s32, wrap32_s32, s32]
  rw [mulLow_eq, s32, BitVec.toInt_sshiftRight, Int.shiftRight_eq_div_pow, hp, Nat.cast_pow, Nat.cast_ofNat]

/-! ### The statements of `40_multiply.md` -/

section
variable {F : Bits5} {s : State} {c : Command} {rest : List Command}
  (hq : s.queue = c :: rest) (hF : 1 ≤ F.toNat) (hF' : F.toNat ≤ 30)
include hq hF hF'

theorem completes_mulH : Completes (.mulH F) s (mulHigh F.toNat c.a c.b) :=
  completes_resultWord hq ((countInRange_iff F).2 ⟨hF, hF'⟩) nofun

theorem completes_mulM : Completes (.mulM F) s (mulMid F.toNat c.a c.b) :=
  completes_resultWord hq ((countInRange_iff F).2 ⟨hF, hF'⟩) nofun

theorem completes_mulL : Completes (.mulL F) s (mulLow F.toNat c.a c.b) :=
  completes_resultWord hq ((countInRange_iff F).2 ⟨hF, hF'⟩) nofun

end

/-- Settles O8: the row is the first of the opcode map, and the model's result is the product rounded half up. -/
theorem mulHighIsTheBiasedProductShifted : Obligations.MulHighIsTheBiasedProductShifted := by
  refine ⟨Row.selects_build (r := ⟨0x00000001, .S, fun F _ => .mulH F⟩) (by simp [opcodeTable, multiplyDivideRows]),
    fun F s c rest hq hF hF' => ?_⟩
  have h := completes_mulH hq hF hF'
  rwa [mulHigh_eq] at h

/-- Settles O9: only the last term of the split product loses bits, so one wrap of the sum is every wrap of the model. -/
theorem mulMidIsTheSplitProductOfMagnitudes : Obligations.MulMidIsTheSplitProductOfMagnitudes := by
  refine ⟨Row.selects_build (r := ⟨0x00000021, .S, fun F _ => .mulM F⟩) (by simp [opcodeTable, multiplyDivideRows]),
    fun F s c rest hq hF hF' => ?_⟩
  have h := completes_mulM hq hF hF'
  rwa [mulMid_eq] at h

/-- Settles O10: the arithmetic shift of a signed word. -/
theorem mulLowShiftsTheLowProduct : Obligations.MulLowShiftsTheLowProduct := by
  refine ⟨Row.selects_build (r := ⟨0x00000041, .S, fun F _ => .mulL F⟩) (by simp [opcodeTable, multiplyDivideRows]),
    fun F s c rest hq hF hF' => ?_⟩
  have h := completes_mulL hq hF hF'
  rwa [mulLow_eq] at h

/-- Settles O11: the product, and in MUL.M the sum of the split terms, is symmetric in the operands. -/
theorem multiplyIsCommutative : Obligations.MultiplyIsCommutative := by
  intro F s c rest i hi hq hF hF'
  obtain rfl | rfl | rfl : i = .mulH F ∨ i = .mulM F ∨ i = .mulL F := by simpa using hi
  · refine ⟨_, completes_mulH hq hF hF', ?_⟩
    rw [mulHigh_comm]
    exact completes_mulH (c := ⟨c.word, c.b, c.a⟩) rfl hF hF'
  · refine ⟨_, completes_mulM hq hF hF', ?_⟩
    rw [mulMid_comm]
    exact completes_mulM (c := ⟨c.word, c.b, c.a⟩) rfl hF hF'
  · refine ⟨_, completes_mulL hq hF hF', ?_⟩
    rw [mulLow_comm]
    exact completes_mulL (c := ⟨c.word, c.b, c.a⟩) rfl hF hF'

/-- Settles O12: both roundings of `a * 2^F` by `2^F` are `a`; the fraction of `b` is 0, so in MUL.M its product does not wrap. -/
theorem multiplyByOneReturnsTheOperand : Obligations.MultiplyByOneReturnsTheOperand := by
  intro F s c rest hq hF hF' hb
  have hone : s32 c.b = 2 ^ F.toNat := hb ▸ s32_oneRaw hF'
  have hfrac : (s32 c.a).natAbs % 2 ^ F.toNat * ((s32 c.b).natAbs % 2 ^ F.toNat) + 2 ^ (F.toNat - 1) < 2 ^ 32 := by
    have hround : 2 ^ (F.toNat - 1) < 2 ^ 32 := Nat.pow_lt_pow_right (by norm_num) (by omega)
    simpa [hone, Int.natAbs_pow] using hround
  have hH := completes_mulH hq hF hF'
  have hM := completes_mulM hq hF hF'
  rw [mulHigh_eq, hone, halfUp_mul_two_pow hF, wrap32_s32] at hH
  rw [mulMid_eq_wrap32 hF hfrac, hone, halfAway_mul_two_pow hF, wrap32_s32] at hM
  exact ⟨hH, hM⟩

/-- Settles O13: the result is the floor of `P + 1/2`. -/
theorem mulHighIsWithinHalfAnUlp : Obligations.MulHighIsWithinHalfAnUlp := by
  intro F s c rest hq hF hF' P hfit
  have hfloor : halfUp F.toNat (s32 c.a * s32 c.b) = ⌊P + 1 / 2⌋ := halfUp_eq_floor hF _
  rw [← hfloor] at hfit
  have hv : (mulHigh F.toNat c.a c.b).toInt = ⌊P + 1 / 2⌋ := (s32_mulHigh hfit.1 hfit.2).trans hfloor
  have hle := Int.floor_le (P + 1 / 2)
  have hlt := Int.lt_floor_add_one (P + 1 / 2)
  refine ⟨_, completes_mulH hq hF hF', ?_⟩
  rw [hv]
  constructor <;> linarith

/-- Settles O14: under its condition each result is the rounding of the product, and no wrap changes it. -/
theorem multiplyExactnessRanges : Obligations.MultiplyExactnessRanges := by
  intro F s c rest hq hF hF' n p P x y
  refine ⟨fun hfit => ⟨_, completes_mulH hq hF hF', ?_⟩, fun hfrac hfit => ⟨_, completes_mulM hq hF hF', ?_⟩,
    fun hfit => ⟨_, completes_mulL hq hF hF', ?_⟩⟩
  · calc
      s32 (mulHigh n c.a c.b) = halfUp n p := s32_mulHigh hfit.1 hfit.2
      _ = ⌊P + 1 / 2⌋ := halfUp_eq_floor hF p
  · calc
      s32 (mulMid n c.a c.b) = halfAway n p := s32_mulMid hF hfrac hfit
      _ = p.sign * ⌊|P| + 1 / 2⌋ := halfAway_eq_sign_mul_floor hF p
  · calc
      s32 (mulLow n c.a c.b) = p / 2 ^ n := s32_mulLow n hfit.1 hfit.2
      _ = ⌊P⌋ := by simpa using (Rat.floor_intCast_div_natCast p (2 ^ n)).symm

/-- Settles O15: the roundings differ as their laws say, and no wrap changes a result in its range. -/
theorem multiplyVariantsAgree : Obligations.MultiplyVariantsAgree := by
  intro F s c rest hq hF hF' n p x y midExact lowExact negativeTie
  have hup : halfUp n p = p / 2 ^ n + _ := halfUp_eq_floor_add hF p
  have htie : halfUp n p = halfAway n p + if negativeTie then 1 else 0 := halfUp_eq_halfAway_add hF p
  have hM (h : midExact) : (mulMid n c.a c.b).toInt = halfAway n p := s32_mulMid hF h.1 h.2
  have hL (h : lowExact) : (mulLow n c.a c.b).toInt = p / 2 ^ n := s32_mulLow n h.1 h.2
  have hH (h : lowExact) : (mulHigh n c.a c.b).toInt = halfUp n p :=
    have hfit := halfUp_fits hF h.1 h.2
    s32_mulHigh hfit.1 hfit.2
  refine ⟨_, _, _, completes_mulH hq hF hF', completes_mulM hq hF hF', completes_mulL hq hF hF',
    fun hmid => ⟨fun hnot => ?_, fun hneg => ?_⟩, fun hlow => ⟨fun hge => ?_, fun hlt => ?_⟩, fun hmid hlow => ?_⟩
  · rw [if_neg hnot, add_zero] at htie
    rw [mulMid_eq_wrap32 hF hmid.1, mulHigh_eq]
    exact congrArg wrap32 htie.symm
  · rw [if_pos hneg] at htie
    have hbounds : -(2 ^ 31) ≤ (mulMid n c.a c.b).toInt ∧ (mulMid n c.a c.b).toInt < 2 ^ 31 := s32_bounds _
    rw [hM hmid] at hbounds
    have hnonpos : halfUp n p ≤ 0 := halfUp_nonpos hF hneg.1
    have hfit : -(2 ^ 31) ≤ halfUp n p ∧ halfUp n p ≤ 2 ^ 31 - 1 := by omega
    rw [hM hmid, ← htie]
    exact s32_mulHigh hfit.1 hfit.2
  · rw [hH hlow, hL hlow, hup, if_pos hge, add_sub_cancel_left]
  · rw [hH hlow, hL hlow, hup, if_neg hlt.not_ge, add_zero, sub_self]
  · rw [hH hlow, hL hlow, hM hmid]
    refine ⟨floor_le_halfAway hF p, ?_, ?_⟩
    · rw [htie]
      split <;> omega
    · rw [hup]
      split <;> omega

end Sys2Proof.Machine

/-!
SUPPORT. The three divides as reductions of the exact raw quotient (R81 to R83, R86), when they fault (R84), the restoring schedule
(R87), and the statements of `41_divide.md`.
-/

namespace Sys2Proof.Machine

/-! ### Words and their readings -/

theorem s32_ne_zero {w : Word} (h : w ≠ 0) : s32 w ≠ 0 := fun h0 => h (BitVec.eq_of_toInt_eq h0)

theorem natAbs_s32_le (w : Word) : (s32 w).natAbs ≤ 2 ^ 31 := by
  have := s32_bounds w
  omega

@[simp] theorem wrap32_two_pow (n : ℕ) : wrap32 (2 ^ n) = BitVec.ofNat 32 (2 ^ n) := by
  simpa using wrap32_natCast (2 ^ n)

/-- The 32-bit left shift is the wrapped multiple (R83). -/
theorem wrap32_mul_two_pow (a : Word) (n : ℕ) : wrap32 (s32 a * 2 ^ n) = a <<< n := by
  rw [wrap32_mul, wrap32_s32, wrap32_two_pow, BitVec.shiftLeft_eq_mul_twoPow]
  congr 1
  exact BitVec.eq_of_toNat_eq (by simp)

/-! ### Truncating and rounding a quotient -/

/-- The truncated quotient is the quotient of the magnitudes with the combined sign (decision D8). -/
theorem tdiv_eq_sign_mul (D r : ℤ) : D.tdiv r = D.sign * r.sign * (D.natAbs / r.natAbs : ℕ) := by
  have hmag : (D.tdiv r).natAbs = D.natAbs / r.natAbs := Int.natAbs_tdiv D r
  rw [← Int.sign_mul_natAbs (D.tdiv r), hmag, Int.sign_tdiv]
  split
  case isTrue hlt => simp [Nat.div_eq_of_lt hlt]
  case isFalse => rfl

/-- R81: the truncated quotient, corrected away from zero where twice the remainder reaches the divisor. -/
def correctedQuotient (D r : ℤ) : ℤ :=
  D.tdiv r + (if D < 0 ↔ r < 0 then 1 else -1) * (if 2 * |D.tmod r| ≥ |r| then 1 else 0)

/-- The direction of the correction is the sign of a quotient that is not zero (R81). -/
theorem direction_eq_sign {D r : ℤ} (hD : D ≠ 0) (hr : r ≠ 0) : (if D < 0 ↔ r < 0 then 1 else -1) = D.sign * r.sign := by
  obtain hD | hD := hD.lt_or_gt <;> obtain hr | hr := hr.lt_or_gt <;>
    simp [hD, hr, hD.not_gt, hr.not_gt, Int.sign_eq_one_of_pos, Int.sign_eq_neg_one_of_neg]

theorem two_mul_abs_ge_abs_iff (x y : ℤ) : 2 * |x| ≥ |y| ↔ 2 * x.natAbs ≥ y.natAbs := by
  rw [Int.abs_eq_natAbs, Int.abs_eq_natAbs]
  omega

/-- The corrected quotient is the corrected quotient of the magnitudes with the combined sign. -/
theorem correctedQuotient_eq_sign_mul (D : ℤ) {r : ℤ} (hr : r ≠ 0) : correctedQuotient D r =
    D.sign * r.sign * (D.natAbs / r.natAbs + if r.natAbs ≤ 2 * (D.natAbs % r.natAbs) then 1 else 0 : ℕ) := by
  obtain rfl | hD := eq_or_ne D 0
  · simp [correctedQuotient, hr]
  · rw [correctedQuotient, tdiv_eq_sign_mul, direction_eq_sign hD hr, ← mul_add]
    simp only [two_mul_abs_ge_abs_iff, Int.natAbs_tmod]
    push_cast
    rfl

theorem correctedQuotient_mul_left {r : ℤ} (hr : r ≠ 0) (q : ℤ) : correctedQuotient (r * q) r = q := by
  simp [correctedQuotient, Int.mul_tdiv_cancel_left, Int.mul_tmod_right, hr]

theorem abs_cast_div (D r : ℤ) : |(D : ℚ) / r| = (D.natAbs : ℚ) / r.natAbs := by
  simp [abs_div, Nat.cast_natAbs]

theorem floor_abs_cast_div (D r : ℤ) : ⌊|(D : ℚ) / r|⌋ = (D.natAbs / r.natAbs : ℕ) := by
  rw [abs_cast_div, Rat.floor_natCast_div_natCast, Int.natCast_ediv]

/-- The truncated quotient over the rationals (R86). -/
theorem tdiv_eq_sign_mul_floor (D r : ℤ) : D.tdiv r = D.sign * r.sign * ⌊|(D : ℚ) / r|⌋ := by
  rw [tdiv_eq_sign_mul, floor_abs_cast_div]

theorem abs_tdiv_eq_floor (D r : ℤ) : |D.tdiv r| = ⌊|(D : ℚ) / r|⌋ := by
  rw [floor_abs_cast_div, Int.abs_eq_natAbs, Int.natAbs_tdiv]
  rfl

/-- Below zero the combined sign is minus one. -/
theorem sign_mul_sign_of_div_neg {D r : ℤ} (h : (D : ℚ) / r < 0) : D.sign * r.sign = -1 := by
  rw [div_neg_iff, ← mul_neg_iff] at h
  rw [← Int.sign_mul, Int.sign_eq_neg_one_of_neg (by exact_mod_cast h)]

/-- Adding half the divisor before dividing rounds to nearest, ties up. -/
theorem two_mul_add_div_two_mul (n : ℕ) {d : ℕ} (hd : 0 < d) :
    (2 * n + d) / (2 * d) = n / d + if d ≤ 2 * (n % d) then 1 else 0 := by
  have hn := Nat.div_add_mod n d
  have hlt := Nat.mod_lt n hd
  generalize n / d = q at *
  generalize n % d = rem at *
  apply Nat.div_eq_of_lt_le <;> split <;> linarith

/-- The corrected quotient is the exact one to nearest, ties away from zero (R81, R86). -/
theorem correctedQuotient_eq_sign_mul_floor (D : ℤ) {r : ℤ} (hr : r ≠ 0) :
    correctedQuotient D r = D.sign * r.sign * ⌊|(D : ℚ) / r| + 1 / 2⌋ := by
  have hd : 0 < r.natAbs := Int.natAbs_pos.2 hr
  have hd' : (r.natAbs : ℚ) ≠ 0 := by positivity
  have hhalf : |(D : ℚ) / r| + 1 / 2 = (2 * D.natAbs + r.natAbs : ℕ) / (2 * r.natAbs : ℕ) := by
    rw [abs_cast_div]
    push_cast
    field_simp
  rw [correctedQuotient_eq_sign_mul D hr, hhalf, Rat.floor_natCast_div_natCast, ← two_mul_add_div_two_mul _ hd]
  rfl

/-! ### DIV.H -/

/-- R81: DIV.H wraps the corrected quotient. -/
theorem divHigh_eq (F : ℕ) (a b : Word) : divHigh F a b = wrap32 (correctedQuotient (s32 a * 2 ^ F) (s32 b)) := by
  simp only [divHigh, pow2_eq, trem_eq_tmod, tdiv, two_mul_abs_ge_abs_iff, correctedQuotient]

/-! ### DIV.M -/

/-- R82: DIV.M is the quotient of the magnitudes with the sign reapplied. -/
theorem divMid_eq (F : ℕ) (a b : Word) : divMid F a b =
    if signBit a ≠ signBit b then -BitVec.ofNat 32 ((s32 a).natAbs * 2 ^ F / (s32 b).natAbs)
    else BitVec.ofNat 32 ((s32 a).natAbs * 2 ^ F / (s32 b).natAbs) := by
  simp only [divMid, mag32_eq_natAbs, reapplySign_eq, Bool.xor_iff_ne, wrap32_natCast]

/-- The truncated quotient of two words is the quotient of their magnitudes with the combined sign (R82). -/
theorem tdiv_s32 (F : ℕ) (a b : Word) : (s32 a * 2 ^ F).tdiv (s32 b) =
    if signBit a ≠ signBit b then -(((s32 a).natAbs * 2 ^ F / (s32 b).natAbs : ℕ) : ℤ)
    else ((s32 a).natAbs * 2 ^ F / (s32 b).natAbs : ℕ) := by
  rw [s32_eq_ite_natAbs a, s32_eq_ite_natAbs b]
  cases signBit a <;> cases signBit b <;>
    simp (disch := positivity) [Int.neg_tdiv, Int.tdiv_neg, Int.tdiv_eq_ediv_of_nonneg]

/-- DIV.M wraps the truncated quotient (R82). -/
theorem divMid_eq_wrap32 (F : ℕ) (a b : Word) : divMid F a b = wrap32 ((s32 a * 2 ^ F).tdiv (s32 b)) := by
  rw [divMid_eq, tdiv_s32, apply_ite wrap32, wrap32_neg, wrap32_natCast]

/-! ### DIV.L -/

/-- R83: DIV.L wraps the truncated quotient of the shifted word. -/
theorem divLow_eq (F : ℕ) (a b : Word) : divLow F a b = wrap32 ((s32 (a <<< F)).tdiv (s32 b)) := by
  simp only [divLow, pow2_eq, wrap32_mul_two_pow, tdiv]

theorem s32_shiftLeft_of_fits {a : Word} {F : ℕ} (h : -(2 ^ 31) ≤ s32 a * 2 ^ F) (h' : s32 a * 2 ^ F ≤ 2 ^ 31 - 1) :
    s32 (a <<< F) = s32 a * 2 ^ F := by
  rw [← wrap32_mul_two_pow, s32_wrap32_of_fits h h']

/-- The range of R85 is that of the words whose shift loses no bit. -/
theorem mul_two_pow_fits {x : ℤ} {n : ℕ} (hn : n ≤ 31) (h : -(2 ^ (31 - n)) ≤ x) (h' : x ≤ 2 ^ (31 - n) - 1) :
    -(2 ^ 31) ≤ x * 2 ^ n ∧ x * 2 ^ n ≤ 2 ^ 31 - 1 := by
  have hpow : (2 : ℤ) ^ (31 - n) * 2 ^ n = 2 ^ 31 := pow_sub_mul_pow 2 hn
  have hone : (1 : ℤ) ≤ 2 ^ n := one_le_pow₀ (by norm_num)
  have hlo := mul_le_mul_of_nonneg_right h (zero_le_one.trans hone)
  have hhi := mul_le_mul_of_nonneg_right h' (zero_le_one.trans hone)
  constructor <;> linarith

/-- Only `-2^31` by `-1` has a quotient of words that is not a word (decision D11). -/
theorem s32_wrap32_tdiv {x y : Word} (h : ¬ (s32 x = -(2 ^ 31) ∧ s32 y = -1)) :
    s32 (wrap32 ((s32 x).tdiv (s32 y))) = (s32 x).tdiv (s32 y) := by
  have hne : x ≠ BitVec.intMin 32 ∨ y ≠ -1#32 := by
    by_contra! hxy
    obtain ⟨rfl, rfl⟩ := hxy
    exact h (by decide)
  rw [s32_wrap32]
  exact (BitVec.toInt_sdiv x y).symm.trans (BitVec.toInt_sdiv_of_ne_or_ne x y hne)

/-! ### The divisor test (R84) -/

/-- Only the divisor test of a legal divide answers `DIVZERO`. -/
theorem replyTo_eq_divideByZero_iff {i : Instr} {a b : Word} :
    replyTo i a b = .raises .divideByZero ↔ i.wellFormed = true ∧ isDivide i = true ∧ b = 0 := by
  cases hwf : i.wellFormed <;> cases hdiv : isDivide i <;> simp [replyTo, checkDivisor, hwf, hdiv]

theorem State.respond_rspStatus_eq_divZero_iff (s : State) (r : Reply) :
    (s.respond r).rspStatus = 0b01 ↔ r = .raises .divideByZero := by
  cases r with
  | value v => simp [State.respond]
  | raises f => cases f <;> simp [State.respond, BlockFault.status, Status.code]

/-- A legal divide by zero answers `DIVZERO`. -/
theorem answersFault_divZero {i : Instr} {s : State} {c : Command} {rest : List Command} (hq : s.queue = c :: rest)
    (hwf : i.wellFormed = true) (hdiv : isDivide i = true) (hb : c.b = 0) : AnswersFault i s 0b01 := by
  refine ⟨Config.faultResult s.draws, s.draws + 1, ?_⟩
  rw [exec_eq_answer, State.answer_cons hq, replyTo_eq_divideByZero_iff.2 ⟨hwf, hdiv, hb⟩]
  rfl

/-- The legal divides, by their counts (R59). -/
theorem legalDivide_iff {i : Instr} : i.wellFormed = true ∧ isDivide i = true ↔
    ∃ F : Bits5, (i = .divH F ∨ i = .divM F ∨ i = .divL F) ∧ 1 ≤ F.toNat ∧ F.toNat ≤ 30 := by
  cases i <;> simp [isDivide, Instr.wellFormed]

/-! ### The restoring schedule (R87) -/

/-- A step takes the remainder and quotient of `n` to those of `n` with the next bit behind it. -/
theorem restoringStep_mod_div {y : ℕ} (hy : 0 < y) (n : ℕ) (bit : Bool) :
    restoringStep y bit (n % y, n / y) = ((2 * n + bit.toNat) % y, (2 * n + bit.toNat) / y) := by
  have hn := Nat.mod_add_div n y
  have hlt := Nat.mod_lt n hy
  have hbit := bit.toNat_le
  have hq (q rem : ℕ) (h : rem + y * q = 2 * n + bit.toNat) (h' : rem < y) :
      (rem, q) = ((2 * n + bit.toNat) % y, (2 * n + bit.toNat) / y) := by
    obtain ⟨hdiv, hmod⟩ := (Nat.div_mod_unique hy).2 ⟨h, h'⟩
    rw [hdiv, hmod]
  dsimp only [restoringStep]
  split
  case isTrue hge => exact hq _ _ (by zify [hge]; linarith) (by omega)
  case isFalse hnot => exact hq _ _ (by linarith) (by omega)

/-- The bits of `N` from bit `k` up are those above it with bit `k` behind them. -/
theorem div_two_pow_eq_bit (N k : ℕ) : N / 2 ^ k = 2 * (N / 2 ^ (k + 1)) + (N.testBit k).toNat := by
  rw [Nat.toNat_testBit, pow_succ, ← Nat.div_div_eq_div_mul, Nat.div_add_mod]

/-- After `i` steps the schedule holds the remainder and quotient of the highest `i` of the `W` bits (R87). -/
theorem restoring_eq {y N W : ℕ} (hy : 0 < y) (hN : N < 2 ^ W) {i : ℕ} (hi : i ≤ W) :
    restoring y N W i = (N / 2 ^ (W - i) % y, N / 2 ^ (W - i) / y) := by
  induction i with
  | zero => simp [restoring, Nat.div_eq_of_lt hN]
  | succ i ih =>
    have hW : W - i = W - (i + 1) + 1 := by omega
    rw [restoring, ih (by omega), restoringStep_mod_div hy, hW, ← div_two_pow_eq_bit]

theorem restoring_self {y N W : ℕ} (hy : 0 < y) (hN : N < 2 ^ W) : restoring y N W W = (N % y, N / y) := by
  simpa using restoring_eq hy hN le_rfl

/-- The numerator of DIV.M has `32 + F` bits (R87). -/
theorem natAbs_s32_mul_two_pow_lt (a : Word) (F : ℕ) : (s32 a).natAbs * 2 ^ F < 2 ^ (32 + F) := by
  rw [pow_add]
  exact Nat.mul_lt_mul_of_pos_right ((natAbs_s32_le a).trans_lt (by norm_num)) (by positivity)

/-! ### The statements of `41_divide.md` -/

section
variable {F : Bits5} {s : State} {c : Command} {rest : List Command}
  (hq : s.queue = c :: rest) (hF : 1 ≤ F.toNat) (hF' : F.toNat ≤ 30) (hb : c.b ≠ 0)
include hq hF hF' hb

theorem completes_divH : Completes (.divH F) s (divHigh F.toNat c.a c.b) :=
  completes_resultWord hq ((countInRange_iff F).2 ⟨hF, hF'⟩) fun _ => hb

theorem completes_divM : Completes (.divM F) s (divMid F.toNat c.a c.b) :=
  completes_resultWord hq ((countInRange_iff F).2 ⟨hF, hF'⟩) fun _ => hb

theorem completes_divL : Completes (.divL F) s (divLow F.toNat c.a c.b) :=
  completes_resultWord hq ((countInRange_iff F).2 ⟨hF, hF'⟩) fun _ => hb

end

/-- Settles O16: the model's result is the corrected quotient wrapped. -/
theorem divHighIsTheCorrectedQuotient : Obligations.DivHighIsTheCorrectedQuotient := by
  refine ⟨Row.selects_build (r := ⟨0x00000002, .S, fun F _ => .divH F⟩) (by simp [opcodeTable, multiplyDivideRows]),
    fun F s c rest hq hF hF' => ⟨answersFault_divZero hq ((countInRange_iff F).2 ⟨hF, hF'⟩) rfl, fun hb => ?_⟩⟩
  have h := completes_divH hq hF hF' hb
  rwa [divHigh_eq] at h

/-- Settles O17: the magnitude of a word is the absolute value of its signed reading, also for `0x80000000`. -/
theorem divMidIsTheTruncatedMagnitudeQuotient : Obligations.DivMidIsTheTruncatedMagnitudeQuotient := by
  refine ⟨Row.selects_build (r := ⟨0x00000022, .S, fun F _ => .divM F⟩) (by simp [opcodeTable, multiplyDivideRows]),
    fun F s c rest hq hF hF' => ⟨answersFault_divZero hq ((countInRange_iff F).2 ⟨hF, hF'⟩) rfl, fun hb => ?_⟩⟩
  have h := completes_divM hq hF hF' hb
  rwa [divMid_eq] at h

/-- Settles O18: the wrapped multiple of the dividend is its left shift. -/
theorem divLowDividesTheShiftedWord : Obligations.DivLowDividesTheShiftedWord := by
  refine ⟨Row.selects_build (r := ⟨0x00000042, .S, fun F _ => .divL F⟩) (by simp [opcodeTable, multiplyDivideRows]),
    fun F s c rest hq hF hF' => ⟨answersFault_divZero hq ((countInRange_iff F).2 ⟨hF, hF'⟩) rfl, fun hb => ?_⟩⟩
  have h := completes_divL hq hF hF' hb
  rwa [divLow_eq] at h

/-- Settles O19: `DIVZERO` is the status of one reply only, and only the divisor test of a legal divide gives it. -/
theorem divideByZeroExactlyOnLegalDivides : Obligations.DivideByZeroExactlyOnLegalDivides := by
  intro i s c rest hq fails
  have hfails : fails ↔ (i.wellFormed = true ∧ isDivide i = true) ∧ c.b = 0 := and_congr_left' legalDivide_iff.symm
  rw [hfails]
  refine ⟨fun ⟨⟨hwf, hdiv⟩, hb⟩ => answersFault_divZero hq hwf hdiv hb, fun hnot => ?_⟩
  rw [and_assoc, ← replyTo_eq_divideByZero_iff] at hnot
  rw [exec_eq_answer, State.answer_cons hq]
  exact ⟨_, rfl, (s.respond_rspStatus_eq_divZero_iff _).not.2 hnot⟩

/-- Settles O20: under its condition each result is the truncated or corrected quotient, and no wrap changes it. -/
theorem divideExactnessRanges : Obligations.DivideExactnessRanges := by
  intro F s c rest hq hF hF' hb D Q sgnQ
  have hH : correctedQuotient D (s32 c.b) = sgnQ * ⌊|Q| + 1 / 2⌋ := correctedQuotient_eq_sign_mul_floor D (s32_ne_zero hb)
  have hT : D.tdiv (s32 c.b) = sgnQ * ⌊|Q|⌋ := tdiv_eq_sign_mul_floor D (s32 c.b)
  refine ⟨fun hfit => ⟨_, completes_divH hq hF hF' hb, ?_⟩, fun hfit => ⟨_, completes_divM hq hF hF' hb, ?_⟩,
    fun ⟨hlo, hhi, hne⟩ => ⟨_, completes_divL hq hF hF' hb, ?_⟩⟩
  · rw [← hH] at hfit ⊢
    rw [divHigh_eq]
    exact s32_wrap32_of_fits hfit.1 hfit.2
  · have hfits : -(2 ^ 31) ≤ D.tdiv (s32 c.b) ∧ D.tdiv (s32 c.b) ≤ 2 ^ 31 - 1 := by
      obtain hle | ⟨heq, hneg⟩ := hfit
      · have hbounds := abs_le.1 ((abs_tdiv_eq_floor D (s32 c.b)).trans_le hle)
        exact ⟨by linarith, hbounds.2⟩
      · have hsgn : sgnQ = -1 := sign_mul_sign_of_div_neg hneg
        rw [hT, heq, hsgn]
        norm_num
    rw [← hT, divMid_eq_wrap32]
    exact s32_wrap32_of_fits hfits.1 hfits.2
  · rw [← hT, divLow_eq]
    have hshift : s32 (c.a <<< F.toNat) = D := s32_shiftLeft_of_fits hlo hhi
    rw [← hshift] at hne ⊢
    exact s32_wrap32_tdiv hne

/-- Settles O21: the quotient `2^F` is exact, so it has no remainder to truncate or correct by. -/
theorem dividingAWordByItselfGivesOne : Obligations.DividingAWordByItselfGivesOne := by
  intro F s c rest hq hF hF' ha hba one
  have hb : c.b ≠ 0 := hba ▸ ha
  have hr : s32 c.a ≠ 0 := s32_ne_zero ha
  have hH := completes_divH hq hF hF' hb
  have hM := completes_divM hq hF hF' hb
  have hL := completes_divL hq hF hF' hb
  rw [divHigh_eq, hba, correctedQuotient_mul_left hr, wrap32_two_pow] at hH
  rw [divMid_eq_wrap32, hba, Int.mul_tdiv_cancel_left _ hr, wrap32_two_pow] at hM
  rw [divLow_eq, hba] at hL
  refine ⟨hH, hM, fun hrange => ?_, fun _ => hL⟩
  have hfits := mul_two_pow_fits (by omega : F.toNat ≤ 31) hrange.1 hrange.2
  rwa [s32_shiftLeft_of_fits hfits.1 hfits.2, Int.mul_tdiv_cancel_left _ hr, wrap32_two_pow] at hL

/-- Settles O22: each step extends the division by one bit of the numerator; DIV.M keeps the quotient of the whole. -/
theorem restoringScheduleDivides : Obligations.RestoringScheduleDivides := by
  refine ⟨fun y N W hy hy' hN => ⟨restoring_self hy hN, fun i hi => ?_⟩, fun F s c rest hq hF hF' hb => ?_⟩
  · have hlt := Nat.mod_lt (N / 2 ^ (W - i)) hy
    have hbit := (N.testBit (W - (i + 1))).toNat_le
    rw [restoring_eq hy hN hi.le]
    constructor <;> omega
  · intro W quo
    have h := completes_divM hq hF hF' hb
    have hpos : 0 < (s32 c.b).natAbs := Int.natAbs_pos.2 (s32_ne_zero hb)
    have hsched := restoring_self hpos (natAbs_s32_mul_two_pow_lt c.a F.toNat)
    have hquo : quo = BitVec.ofNat 32 ((s32 c.a).natAbs * 2 ^ F.toNat / (s32 c.b).natAbs) :=
      congrArg (fun rq => BitVec.ofNat 32 rq.2) hsched
    rw [hquo]
    rwa [divMid_eq] at h

end Sys2Proof.Machine

/-!
SUPPORT. The rescale unit as shifts of the word (R91, R93, R94), the reference map from numbers to words as a rounding (R95), and the
statements of `42_convert.md`.
-/

namespace Sys2Proof.Machine

/-! ### The two shifts -/

/-- The arithmetic right shift is the wrapped floor; no wrap changes it. -/
theorem wrap32_sra (a : Word) (n : ℕ) : wrap32 (sra (s32 a) n) = a.sshiftRight n := by
  rw [sra_eq_ediv, BitVec.sshiftRight, Int.shiftRight_eq_div_pow]
  rfl

theorem s32_sshiftRight (a : Word) (n : ℕ) : s32 (a.sshiftRight n) = s32 a / 2 ^ n := by
  rw [s32, BitVec.toInt_sshiftRight, Int.shiftRight_eq_div_pow]
  rfl

/-- The arithmetic right shift floors over the rationals (R92, R94). -/
theorem s32_sshiftRight_eq_floor (a : Word) (n : ℕ) : s32 (a.sshiftRight n) = ⌊(s32 a : ℚ) / 2 ^ n⌋ := by
  rw [s32_sshiftRight]
  simpa using (Rat.floor_intCast_div_natCast (s32 a) (2 ^ n)).symm

/-- A word shifted left without loss comes back by the arithmetic right shift (R92, R97). -/
theorem sshiftRight_shiftLeft_of_fits {a : Word} {n : ℕ} (hn : n ≤ 31) (h : -(2 ^ (31 - n)) ≤ s32 a)
    (h' : s32 a ≤ 2 ^ (31 - n) - 1) : (a <<< n).sshiftRight n = a := by
  obtain ⟨hlo, hhi⟩ := mul_two_pow_fits hn h h'
  apply BitVec.eq_of_toInt_eq
  calc
    s32 ((a <<< n).sshiftRight n) = s32 a * 2 ^ n / 2 ^ n := by rw [s32_sshiftRight, s32_shiftLeft_of_fits hlo hhi]
    _ = s32 a := Int.mul_ediv_cancel _ (by positivity)

/-- Shifting right and back clears the low bits (R92). -/
theorem shiftLeft_sshiftRight (a : Word) (n : ℕ) :
    a.sshiftRight n <<< n = a &&& ~~~(BitVec.ofNat 32 (2 ^ n - 1)) := by
  refine BitVec.eq_of_getLsbD_eq fun i hi => ?_
  have hmask : (BitVec.ofNat 32 (2 ^ n - 1)).getLsbD i = decide (i < n) := by
    rw [BitVec.getLsbD_ofNat, Nat.testBit_two_pow_sub_one, decide_eq_true hi, Bool.true_and]
  rw [BitVec.getLsbD_shiftLeft, BitVec.getLsbD_and, BitVec.getLsbD_not, hmask]
  by_cases hlt : i < n
  · simp [hlt]
  · have hback : n + (i - n) = i := by omega
    have hshift : i - n < 32 := by omega
    simp [hlt, hi, hback, hshift.not_ge, BitVec.getLsbD_sshiftRight]

/-- The floor of a word stays in the range of the words whose shift loses no bit. -/
theorem ediv_two_pow_fits (a : Word) {n : ℕ} (hn : n ≤ 31) :
    -(2 ^ (31 - n)) ≤ s32 a / 2 ^ n ∧ s32 a / 2 ^ n ≤ 2 ^ (31 - n) - 1 := by
  obtain ⟨hlo, hhi⟩ := s32_bounds a
  have hpow : (2 : ℤ) ^ (31 - n) * 2 ^ n = 2 ^ 31 := pow_sub_mul_pow 2 hn
  rw [Int.le_ediv_iff_mul_le (by positivity), Int.le_sub_one_iff, Int.ediv_lt_iff_lt_mul (by positivity), neg_mul, hpow]
  exact ⟨hlo, hhi⟩

theorem s32_shiftLeft_sshiftRight (a : Word) {n : ℕ} (hn : n ≤ 31) :
    s32 (a.sshiftRight n <<< n) = s32 a / 2 ^ n * 2 ^ n := by
  obtain ⟨hlo, hhi⟩ := ediv_two_pow_fits a hn
  rw [← s32_sshiftRight] at hlo hhi ⊢
  obtain ⟨hlo', hhi'⟩ := mul_two_pow_fits hn hlo hhi
  exact s32_shiftLeft_of_fits hlo' hhi'

/-! ### CVT, FROMINT and TOINT -/

theorem rescale_of_lt {F B : ℕ} (h : B < F) (a : Word) : rescale F B a = a <<< (F - B) := by
  rw [rescale, if_pos h, pow2_eq, wrap32_mul_two_pow]

theorem rescale_of_le {F B : ℕ} (h : F ≤ B) (a : Word) : rescale F B a = a.sshiftRight (B - F) := by
  rw [rescale, if_neg h.not_gt, wrap32_sra]

theorem fromInteger_eq (F : ℕ) (a : Word) : fromInteger F a = a <<< F := by
  rw [fromInteger, pow2_eq, wrap32_mul_two_pow]

theorem toInteger_eq (F : ℕ) (a : Word) : toInteger F a = a.sshiftRight F := wrap32_sra a F

/-- A narrowed value is the greatest multiple of `2^-F` not above the value (R92). -/
theorem toReal_sshiftRight_bounds {F B : ℕ} (h : F ≤ B) (a : Word) :
    (toReal F (a.sshiftRight (B - F)) : ℚ) ≤ toReal B a ∧
      (toReal B a : ℚ) < toReal F (a.sshiftRight (B - F)) + 1 / 2 ^ F := by
  have hvalue : (toReal B a : ℚ) = s32 a / 2 ^ (B - F) / 2 ^ F := by
    rw [toReal, div_div, pow_sub_mul_pow 2 h]
  rw [hvalue, toReal, s32_sshiftRight_eq_floor, ← add_div]
  constructor
  · gcongr
    exact Int.floor_le _
  · gcongr
    exact Int.lt_floor_add_one _

section
variable {F : Bits5} {s : State} {c : Command} {rest : List Command}
  (hq : s.queue = c :: rest) (hF : 1 ≤ F.toNat) (hF' : F.toNat ≤ 30)
include hq hF hF'

theorem completes_cvt {B : Bits5} (hB : 1 ≤ B.toNat) (hB' : B.toNat ≤ 30) :
    Completes (.cvt F B) s (rescale F.toNat B.toNat c.a) := by
  have hwf : (Instr.cvt F B).wellFormed = true := by simp [Instr.wellFormed, *]
  exact completes_resultWord hq hwf nofun

theorem completes_fromInt : Completes (.fromInt F) s (c.a <<< F.toNat) :=
  fromInteger_eq F.toNat c.a ▸ completes_resultWord hq ((countInRange_iff F).2 ⟨hF, hF'⟩) nofun

theorem completes_toInt : Completes (.toInt F) s (c.a.sshiftRight F.toNat) :=
  toInteger_eq F.toNat c.a ▸ completes_resultWord hq ((countInRange_iff F).2 ⟨hF, hF'⟩) nofun

end

/-! ### The reference maps -/

section
variable {K : Type} [Field K] [LinearOrder K] [IsStrictOrderedRing K] [FloorRing K]

/-- The integer that `FromReal_F(x)` wraps: the scaled number rounded, ties away from zero (R95). -/
def scaledInt (F : ℕ) (x : K) : ℤ := (SignType.sign x : ℤ) * ⌊|x| * 2 ^ F + 1 / 2⌋

theorem fromReal_eq (F : ℕ) (x : K) : fromReal F x = wrap32 (scaledInt F x) := rfl

theorem scaledInt_of_pos (F : ℕ) {x : K} (hx : 0 < x) : scaledInt F x = round (x * 2 ^ F) := by
  simp [scaledInt, hx, abs_of_pos, round_eq]

theorem scaledInt_neg (F : ℕ) (x : K) : scaledInt F (-x) = -scaledInt F x := by
  simp [scaledInt, Left.sign_neg]

theorem scaledInt_zero (F : ℕ) : scaledInt F (0 : K) = 0 := by simp [scaledInt]

/-- The scaled number is rounded to a nearest integer, whatever its sign. -/
theorem abs_scaledInt_sub_le (F : ℕ) (x : K) : |(scaledInt F x : K) - x * 2 ^ F| ≤ 1 / 2 := by
  have hpos {y : K} (hy : 0 < y) : |(scaledInt F y : K) - y * 2 ^ F| ≤ 1 / 2 := by
    rw [scaledInt_of_pos F hy, abs_sub_comm]
    exact abs_sub_round _
  obtain hx | rfl | hx := lt_trichotomy x 0
  · have hneg := hpos (neg_pos.2 hx)
    rwa [scaledInt_neg, Int.cast_neg, neg_mul, ← neg_sub', abs_neg] at hneg
  · simp [scaledInt_zero]
  · exact hpos hx

theorem fromReal_of_round {F : ℕ} {x : K} {z : ℤ} (hx : 0 < x) (hz : round (x * 2 ^ F) = z) :
    fromReal F x = wrap32 z := by
  rw [fromReal_eq, scaledInt_of_pos F hx, hz]

theorem fromReal_neg (F : ℕ) (x : K) : fromReal F (-x) = -fromReal F x := by
  rw [fromReal_eq, fromReal_eq, scaledInt_neg, wrap32_neg]

theorem toReal_fromReal_of_fits {F : ℕ} {x : K} (h : -(2 ^ 31) ≤ scaledInt F x) (h' : scaledInt F x ≤ 2 ^ 31 - 1) :
    (toReal F (fromReal F x) : K) = scaledInt F x / 2 ^ F := by
  rw [toReal, fromReal_eq, s32_wrap32_of_fits h h']

end

/-! ### The statements of `42_convert.md` -/

/-- Settles O23: the wrapped multiple is the left shift, and the floor is the arithmetic right shift. -/
theorem cvtShiftsTheWord : Obligations.CvtShiftsTheWord := by
  refine ⟨Row.selects_build (r := ⟨0x00000003, .C, fun F B => .cvt F B⟩) (by simp [opcodeTable, rescaleRows]),
    fun F B s c rest hq hF hF' hB hB' => ?_⟩
  have h := completes_cvt hq hF hF' hB hB'
  split
  case isTrue hlt => rwa [rescale_of_lt hlt] at h
  case isFalse hge => rwa [rescale_of_le (not_lt.1 hge)] at h

/-- Settles O24: a left shift that fits is undone, and a right shift undone clears the bits it lost. -/
theorem cvtRoundTrips : Obligations.CvtRoundTrips := by
  intro F B s c rest hq hF hF' hB hB'
  refine ⟨_, completes_cvt hq hF hF' hB hB', rescale B.toNat F.toNat (rescale F.toNat B.toNat c.a),
    fun s' c' rest' hq' hv => hv ▸ completes_cvt hq' hB hB' hF hF', fun hlt hlo hhi => ?_, fun hlt => ?_⟩
  · rw [rescale_of_lt hlt, rescale_of_le hlt.le]
    exact sshiftRight_shiftLeft_of_fits (by omega) hlo hhi
  · rw [rescale_of_le hlt.le, rescale_of_lt hlt]
    refine ⟨shiftLeft_sshiftRight _ _, ?_, toReal_sshiftRight_bounds hlt.le c.a⟩
    calc
      s32 (c.a.sshiftRight (B.toNat - F.toNat) <<< (B.toNat - F.toNat)) = _ := s32_shiftLeft_sshiftRight c.a (by omega)
      _ ≤ s32 c.a := Int.ediv_mul_le _ (by positivity)

/-- Settles O25: the wrapped multiple is the left shift. -/
theorem fromIntScalesTheInteger : Obligations.FromIntScalesTheInteger :=
  ⟨Row.selects_build (r := ⟨0x00000004, .T, fun F _ => .fromInt F⟩) (by simp [opcodeTable, rescaleRows]),
    fun _ _ _ _ hq hF hF' => completes_fromInt hq hF hF'⟩

/-- Settles O26: the arithmetic right shift of a word is the floor of its signed reading. -/
theorem toIntFloorsTheWord : Obligations.ToIntFloorsTheWord :=
  ⟨Row.selects_build (r := ⟨0x00000005, .T, fun F _ => .toInt F⟩) (by simp [opcodeTable, rescaleRows]),
    fun F _ c _ hq hF hF' => ⟨_, completes_toInt hq hF hF', s32_sshiftRight_eq_floor c.a F.toNat⟩⟩

/-- Settles O27: the left shift that fits loses no bit, so the right shift gives the integer back. -/
theorem integerRoundTrip : Obligations.IntegerRoundTrip := by
  intro F s c rest hq hF hF' hlo hhi
  refine ⟨_, completes_fromInt hq hF hF', fun s' c' rest' hq' hv => ?_⟩
  have h := completes_toInt hq' hF hF'
  rwa [hv, sshiftRight_shiftLeft_of_fits (by omega) hlo hhi] at h

/-- Settles O28: the wrap changes nothing, and rounding the scaled number moves it by at most 1/2. -/
theorem realRoundTrip : Obligations.RealRoundTrip := by
  intro F x _ _ hlo hhi
  have hpos : (0 : ℝ) < 2 ^ F := by positivity
  calc
    |toReal F (fromReal F x) - x| = |(scaledInt F x - x * 2 ^ F) / 2 ^ F| := by
      rw [toReal_fromReal_of_fits hlo hhi, sub_div, mul_div_cancel_right₀ _ hpos.ne']
    _ = |scaledInt F x - x * 2 ^ F| / 2 ^ F := by rw [abs_div, abs_of_pos hpos]
    _ ≤ 1 / 2 / 2 ^ F := by gcongr; exact abs_scaledInt_sub_le F x
    _ = 1 / 2 ^ (F + 1) := by rw [div_div, pow_succ']

/-- Settles O29: a positive number is scaled and rounded, a negative one is the negation of its opposite. -/
theorem referenceMapExamples : Obligations.ReferenceMapExamples := by
  have hfive : fromReal 16 (5 / 2 : ℚ) = wrap32 163840 := fromReal_of_round (by norm_num) (by norm_num)
  have hthree : fromReal 16 (3 / 2 : ℚ) = wrap32 98304 := fromReal_of_round (by norm_num) (by norm_num)
  have htenth : fromReal 16 (1 / 10 : ℚ) = wrap32 6554 := fromReal_of_round (by norm_num) (by norm_num)
  have htie : fromReal 8 (1 / 512 : ℚ) = wrap32 1 := fromReal_of_round (by norm_num) (by norm_num)
  refine ⟨hfive, ?_, ?_, htenth, ?_, ?_, ?_, ?_⟩
  · rw [neg_div, fromReal_neg, hfive]
    rfl
  · rw [neg_div, fromReal_neg, hthree]
    rfl
  · rw [fromReal_eq, scaledInt_zero]
    rfl
  · rw [neg_div, fromReal_neg, htie]
    rfl
  · have hword : s32 0x00036000 = 221184 := rfl
    norm_num [toReal, hword]
  · have hword : s32 0x00000155 = 341 := rfl
    norm_num [toReal, hword]

end Sys2Proof.Machine

/-!
SUPPORT. The auxiliary unit: sum, difference, negation and shifts as operations of words (R101 to R107), FLOOR, CEIL and ROUND as
roundings of the signed reading (R108 to R110), the comparisons (R111 to R116), and the statements of `43_auxiliary.md`.
-/

namespace Sys2Proof.Machine

/-! ### Residues of a wrapped integer -/

/-- Wrapping keeps the residue modulo any power of two up to `2^32`. -/
theorem s32_wrap32_emod (z : ℤ) {n : ℕ} (hn : n ≤ 32) : s32 (wrap32 z) % 2 ^ n = z % 2 ^ n := by
  have hdvd : (2 : ℤ) ^ n ∣ ((2 ^ 32 : ℕ) : ℤ) := by simpa using pow_dvd_pow (2 : ℤ) hn
  rw [s32_wrap32, ← Int.emod_emod_of_dvd _ hdvd, Int.bmod_emod, Int.emod_emod_of_dvd _ hdvd]

/-- The low bits of a word are the residue of its signed reading. -/
theorem toNat_mod_two_pow (a : Word) {n : ℕ} (hn : n ≤ 32) : ((a.toNat % 2 ^ n : ℕ) : ℤ) = s32 a % 2 ^ n := by
  have h := s32_wrap32_emod (u32 a) hn
  rw [wrap32_u32] at h
  rw [h]
  simp [u32]

/-- A reconstructed integer has no fraction bits (R117). -/
theorem wrap32_mul_two_pow_toNat_mod (q : ℤ) {n : ℕ} (hn : n ≤ 32) : (wrap32 (q * 2 ^ n)).toNat % 2 ^ n = 0 := by
  have h := toNat_mod_two_pow (wrap32 (q * 2 ^ n)) hn
  rw [s32_wrap32_emod _ hn, Int.mul_emod_left] at h
  exact_mod_cast h

/-! ### NEG, ABS and SIGN -/

/-- R103: the wrapped negation is the negation of the word. -/
theorem negate_eq (a : Word) : negate a = -a := by
  rw [negate, wrap32_neg, wrap32_s32]

theorem absolute_eq (a : Word) : absolute a = if signBit a then -a else a := by
  rw [absolute, negate_eq]

theorem signWord_eq (F : ℕ) (a : Word) :
    signWord F a = if signBit a then -BitVec.ofNat 32 (2 ^ F) else BitVec.ofNat 32 (2 ^ F) := by
  rw [signWord, wrap32_neg, wrap32_natCast, oneRaw]

/-- ABS is the absolute value of every word but the most negative (R118). -/
theorem s32_absolute {a : Word} (ha : a ≠ 0x80000000) : s32 (absolute a) = |s32 a| := by
  obtain ⟨hlo, hhi⟩ := s32_bounds a
  have hmin : s32 a ≠ -(2 ^ 31) := fun h => ha (BitVec.eq_of_toInt_eq h)
  rw [absolute]
  split
  case isTrue hneg =>
    rw [signBit_iff] at hneg
    rw [negate, s32_wrap32_of_fits, abs_of_neg hneg] <;> omega
  case isFalse hpos =>
    rw [signBit_iff, not_lt] at hpos
    rw [abs_of_nonneg hpos]

/-- SIGN is `ONE` with the sign of the word (R107). -/
theorem s32_signWord {F : ℕ} (hF : F ≤ 30) (a : Word) : s32 (signWord F a) = if signBit a then -2 ^ F else 2 ^ F := by
  have hlt : (2 : ℤ) ^ F ≤ 2 ^ 30 := pow_le_pow_right₀ (by norm_num) hF
  have hpos : (0 : ℤ) < 2 ^ F := by positivity
  rw [signWord, oneRaw, Nat.cast_pow, Nat.cast_ofNat]
  split <;> rw [s32_wrap32_of_fits] <;> omega

/-- The product of SIGN and ABS is the word scaled by `ONE`, before MUL.H divides by it (R118). -/
theorem s32_signWord_mul_s32_absolute {F : ℕ} (hF : F ≤ 30) {a : Word} (ha : a ≠ 0x80000000) :
    s32 (signWord F a) * s32 (absolute a) = s32 a * 2 ^ F := by
  rw [s32_signWord hF, s32_absolute ha]
  simp only [signBit_iff]
  split
  case isTrue hneg => rw [abs_of_neg hneg, neg_mul_neg, mul_comm]
  case isFalse hpos => rw [abs_of_nonneg (not_lt.1 hpos), mul_comm]

/-! ### FLOOR -/

/-- R108: the floor reconstructed, before any wrap. -/
theorem floorWord_eq_wrap32 (F : ℕ) (a : Word) : floorWord F a = wrap32 (s32 a / 2 ^ F * 2 ^ F) := by
  rw [floorWord, sra_eq_ediv, pow2_eq]

/-- FLOOR shifts the fraction out and zeros in. -/
theorem floorWord_eq (F : ℕ) (a : Word) : floorWord F a = a.sshiftRight F <<< F := by
  rw [floorWord_eq_wrap32, ← s32_sshiftRight, wrap32_mul_two_pow]

theorem s32_floorWord {F : ℕ} (hF : F ≤ 31) (a : Word) : s32 (floorWord F a) = s32 a / 2 ^ F * 2 ^ F := by
  rw [floorWord_eq, s32_shiftLeft_sshiftRight a hF]

/-- FLOOR takes the residue off the integer, and no wrap changes the residue. -/
theorem floorWord_wrap32 {F : ℕ} (hF : F ≤ 32) (z : ℤ) : floorWord F (wrap32 z) = wrap32 (z / 2 ^ F * 2 ^ F) := by
  have hfloor (x : ℤ) : x / 2 ^ F * 2 ^ F = x + -(x % 2 ^ F) := by
    have := Int.emod_add_ediv_mul x (2 ^ F)
    omega
  rw [floorWord_eq_wrap32, hfloor, hfloor, s32_wrap32_emod z hF, wrap32_add, wrap32_add, wrap32_s32]

/-! ### CEIL -/

/-- R109: CEIL is the negation of FLOOR of the negation, the wrap between the two being one of the reconstruction. -/
theorem ceilWord_eq_neg_floorWord (F : ℕ) (a : Word) : ceilWord F a = -floorWord F (-a) := by
  simp only [ceilWord, negate_eq, fromInteger, floorWord, wrap32_mul, wrap32_s32, wrap32_neg, neg_mul]

theorem ceil_div_two_pow_eq_neg (F : ℕ) (z : ℤ) : ⌈(z : ℚ) / 2 ^ F⌉ = -(-z / 2 ^ F) := by
  simpa using Rat.ceil_intCast_div_natCast z (2 ^ F)

/-- The ceiling is the floor, or one more where there is a fraction. -/
theorem ceil_div_two_pow_eq_add (F : ℕ) (z : ℤ) :
    ⌈(z : ℚ) / 2 ^ F⌉ = z / 2 ^ F + if z % 2 ^ F = 0 then 0 else 1 := by
  have hpos : (0 : ℤ) < 2 ^ F := by positivity
  rw [ceil_div_two_pow_eq_neg, Int.neg_ediv, Int.sign_eq_one_of_pos hpos]
  simp only [Int.dvd_iff_emod_eq_zero]
  split <;> omega

theorem le_ceil_mul_two_pow (F : ℕ) (z : ℤ) : z ≤ ⌈(z : ℚ) / 2 ^ F⌉ * 2 ^ F := by
  have := Int.ediv_mul_le (-z) (by positivity : (2 : ℤ) ^ F ≠ 0)
  rw [ceil_div_two_pow_eq_neg]
  linarith

/-- The ceiling reconstructed is `ONE` above the floor reconstructed where there is a fraction (R117). -/
theorem ceil_sub_floor_mul_two_pow (F : ℕ) (z : ℤ) :
    ⌈(z : ℚ) / 2 ^ F⌉ * 2 ^ F - z / 2 ^ F * 2 ^ F = if z % 2 ^ F = 0 then 0 else 2 ^ F := by
  rw [ceil_div_two_pow_eq_add, ← sub_mul, add_sub_cancel_left, ite_mul, zero_mul, one_mul]

/-- R109: the ceiling reconstructed, for every word: the wraps of the two negations cancel. -/
theorem ceilWord_eq {F : ℕ} (hF : F ≤ 32) (a : Word) : ceilWord F a = wrap32 (⌈(s32 a : ℚ) / 2 ^ F⌉ * 2 ^ F) := by
  have hneg : -a = wrap32 (-s32 a) := by rw [wrap32_neg, wrap32_s32]
  rw [ceilWord_eq_neg_floorWord, hneg, floorWord_wrap32 hF, ceil_div_two_pow_eq_neg, neg_mul, wrap32_neg]

/-- Where the ceiling fits, CEIL is it (R117). -/
theorem s32_ceilWord {F : ℕ} (hF : F ≤ 32) {a : Word} (h : ⌈(s32 a : ℚ) / 2 ^ F⌉ * 2 ^ F < 2 ^ 31) :
    s32 (ceilWord F a) = ⌈(s32 a : ℚ) / 2 ^ F⌉ * 2 ^ F := by
  obtain ⟨hlo, -⟩ := s32_bounds a
  have hle := le_ceil_mul_two_pow F (s32 a)
  rw [ceilWord_eq hF, s32_wrap32_of_fits] <;> omega

/-! ### ROUND -/

section
variable {F : ℕ} (hF : 1 ≤ F)
include hF

/-- R110: moving away from zero by `ROUND` and truncating rounds to the nearest integer, ties away from zero. -/
theorem tdiv_add_round (z : ℤ) :
    (z + if z < 0 then -2 ^ (F - 1) else 2 ^ (F - 1)).tdiv (2 ^ F) = halfAway F z := by
  have hnonneg {x : ℤ} (hx : 0 ≤ x) : (x + 2 ^ (F - 1)).tdiv (2 ^ F) = halfAway F x := by
    rw [halfAway_of_nonneg hF hx, halfUp, Int.tdiv_eq_ediv_of_nonneg (by positivity)]
  split
  case isTrue hz =>
    have h := hnonneg (neg_nonneg.2 hz.le)
    rw [halfAway_neg] at h
    rw [← neg_neg (z + _), neg_add, neg_neg, Int.neg_tdiv, h, neg_neg]
  case isFalse hz => exact hnonneg (not_lt.1 hz)

theorem roundWord_eq (a : Word) : roundWord F a = wrap32 (halfAway F (s32 a) * 2 ^ F) := by
  rw [← tdiv_add_round hF]
  simp only [roundWord, roundRaw, oneRaw, tdiv, pow2_eq, signBit_iff, Nat.cast_pow, Nat.cast_ofNat]

/-- Above zero the tie goes to the ceiling, which is the farther from zero (R117). -/
theorem halfAway_of_pos {z : ℤ} (hz : 0 < z) :
    halfAway F z = if 2 ^ (F - 1) ≤ z % 2 ^ F then ⌈(z : ℚ) / 2 ^ F⌉ else z / 2 ^ F := by
  have hpos : (0 : ℤ) < 2 ^ (F - 1) := by positivity
  rw [halfAway_of_nonneg hF hz.le, halfUp_eq_floor_add hF, ceil_div_two_pow_eq_add]
  split
  case isTrue htie => rw [if_neg (hpos.trans_le htie).ne']
  case isFalse => rw [add_zero]

/-- Below zero the tie goes to the floor, which is the farther from zero (R117). -/
theorem halfAway_of_neg {z : ℤ} (hz : z < 0) :
    halfAway F z = if z % 2 ^ F ≤ 2 ^ (F - 1) then z / 2 ^ F else ⌈(z : ℚ) / 2 ^ F⌉ := by
  have hpos : (0 : ℤ) < 2 ^ (F - 1) := by positivity
  have haway := halfAway_of_nonneg hF (neg_nonneg.2 hz.le)
  have hneg := halfUp_neg hF z
  rw [halfAway_neg] at haway
  rw [halfUp_eq_floor_add hF z] at hneg
  rw [ceil_div_two_pow_eq_add]
  obtain hr | hr | hr := lt_trichotomy (z % 2 ^ F) (2 ^ (F - 1))
  · simp only [hr.not_ge, hr.ne, hr.le, if_true, if_false] at hneg ⊢
    omega
  · simp only [hr, le_refl, if_true] at hneg ⊢
    omega
  · simp only [hr.le, hr.ne', hr.not_ge, (hpos.trans hr).ne', if_true, if_false] at hneg ⊢
    omega

end

/-! ### The comparisons -/

theorem truthWord_decide (p : Prop) [Decidable p] : truthWord (decide p) = if p then 1 else 0 := by
  simp [truthWord]

theorem completes_truth {i : Instr} {s : State} {c : Command} {rest : List Command} {p : Prop} [Decidable p]
    (hq : s.queue = c :: rest) (hwf : i.wellFormed = true) (hdiv : isDivide i = false)
    (hresult : resultWord i c.a c.b = truthWord (decide p)) : Completes i s (if p then 1 else 0) := by
  rw [← truthWord_decide, ← hresult]
  exact completes_resultWord hq hwf (by simp [hdiv])

theorem s32_inj {a b : Word} : s32 a = s32 b ↔ a = b := BitVec.toInt_inj

/-! ### The statements of `43_auxiliary.md` -/

section
variable {s : State} {c : Command} {rest : List Command} (hq : s.queue = c :: rest)
include hq

theorem completes_abs : Completes .abs s (absolute c.a) := completes_resultWord hq rfl nofun

variable {F : Bits5} (hF : 1 ≤ F.toNat) (hF' : F.toNat ≤ 30)
include hF hF'

theorem completes_sign : Completes (.sign F) s (signWord F.toNat c.a) :=
  completes_resultWord hq ((countInRange_iff F).2 ⟨hF, hF'⟩) nofun

theorem completes_floor : Completes (.floor F) s (floorWord F.toNat c.a) :=
  completes_resultWord hq ((countInRange_iff F).2 ⟨hF, hF'⟩) nofun

theorem completes_ceil : Completes (.ceil F) s (ceilWord F.toNat c.a) :=
  completes_resultWord hq ((countInRange_iff F).2 ⟨hF, hF'⟩) nofun

theorem completes_round : Completes (.round F) s (roundWord F.toNat c.a) :=
  completes_resultWord hq ((countInRange_iff F).2 ⟨hF, hF'⟩) nofun

end

/-- Settles O30: wrapping is a ring homomorphism from the integers to the words. -/
theorem addSubNegWrap : Obligations.AddSubNegWrap := by
  refine ⟨Row.selects_build (r := ⟨0x00000008, .N, fun _ _ => .add⟩) (by simp [opcodeTable, auxiliaryRows]),
    Row.selects_build (r := ⟨0x00000009, .N, fun _ _ => .sub⟩) (by simp [opcodeTable, auxiliaryRows]),
    Row.selects_build (r := ⟨0x0000000A, .N, fun _ _ => .neg⟩) (by simp [opcodeTable, auxiliaryRows]),
    fun s c rest hq => ?_⟩
  have hadd : wrap32 (s32 c.a + s32 c.b) = c.a + c.b := by rw [wrap32_add, wrap32_s32, wrap32_s32]
  have hsub : wrap32 (s32 c.a - s32 c.b) = c.a - c.b := by
    rw [sub_eq_add_neg, wrap32_add, wrap32_neg, wrap32_s32, wrap32_s32, sub_eq_add_neg]
  exact ⟨hadd ▸ completes_resultWord hq rfl nofun, hsub ▸ completes_resultWord hq rfl nofun,
    negate_eq c.a ▸ completes_resultWord hq rfl nofun⟩

/-- Settles O31: the wrapped multiple is the left shift, and the floor is the arithmetic right shift. -/
theorem shiftsByEveryAmount : Obligations.ShiftsByEveryAmount := by
  refine ⟨Row.selects_build (r := ⟨0x0000000B, .H, fun _ sh => .shl sh⟩) (by simp [opcodeTable, auxiliaryRows]),
    Row.selects_build (r := ⟨0x0000000C, .H, fun _ sh => .shr sh⟩) (by simp [opcodeTable, auxiliaryRows]),
    fun sh s c rest hq => ?_⟩
  have hshl : wrap32 (s32 c.a * pow2 sh.toNat) = c.a <<< sh.toNat := fromInteger_eq sh.toNat c.a
  exact ⟨hshl ▸ completes_resultWord hq rfl nofun, wrap32_sra c.a sh.toNat ▸ completes_resultWord hq rfl nofun⟩

/-- Settles O32: the wrapped negation is the negation of the word. -/
theorem absNegatesNegativeWords : Obligations.AbsNegatesNegativeWords :=
  ⟨Row.selects_build (r := ⟨0x00000010, .N, fun _ _ => .abs⟩) (by simp [opcodeTable, auxiliaryRows]),
    fun _ c _ hq => absolute_eq c.a ▸ completes_abs hq⟩

/-- Settles O33: `ONE` or its negation, by the sign bit alone. -/
theorem signIsPlusOrMinusOne : Obligations.SignIsPlusOrMinusOne := by
  refine ⟨Row.selects_build (r := ⟨0x00000011, .T, fun F _ => .sign F⟩) (by simp [opcodeTable, auxiliaryRows]),
    fun F s c rest hq hF hF' => ?_⟩
  have h := completes_sign hq hF hF'
  rwa [signWord_eq] at h

/-- Settles O34: shifting the fraction out and zeros in clears it, and the floor never leaves the range. -/
theorem floorClearsTheFraction : Obligations.FloorClearsTheFraction := by
  refine ⟨Row.selects_build (r := ⟨0x00000012, .T, fun F _ => .floor F⟩) (by simp [opcodeTable, auxiliaryRows]),
    fun F s c rest hq hF hF' => ⟨_, completes_floor hq hF hF', ?_, ?_⟩⟩
  · rw [floorWord_eq, shiftLeft_sshiftRight]
  · calc
      s32 (floorWord F.toNat c.a) = s32 c.a / 2 ^ F.toNat * 2 ^ F.toNat := s32_floorWord (by omega) c.a
      _ = ⌊(s32 c.a : ℚ) / 2 ^ F.toNat⌋ * 2 ^ F.toNat := by rw [← s32_sshiftRight, s32_sshiftRight_eq_floor]

/-- Settles O35: the wraps of the two negations are wraps of the reconstruction. -/
theorem ceilIsTheCeilingReconstructed : Obligations.CeilIsTheCeilingReconstructed := by
  refine ⟨Row.selects_build (r := ⟨0x00000013, .T, fun F _ => .ceil F⟩) (by simp [opcodeTable, auxiliaryRows]),
    fun F s c rest hq hF hF' => ?_⟩
  have h := completes_ceil hq hF hF'
  rwa [ceilWord_eq (by omega)] at h

/-- Settles O36: the truncated quotient of the biased reading is the reading rounded away from zero. -/
theorem roundIsNearestTiesAwayFromZero : Obligations.RoundIsNearestTiesAwayFromZero := by
  refine ⟨Row.selects_build (r := ⟨0x00000014, .T, fun F _ => .round F⟩) (by simp [opcodeTable, auxiliaryRows]),
    fun F s c rest hq hF hF' => ?_⟩
  have h := completes_round hq hF hF'
  rwa [roundWord_eq hF] at h

/-- Settles O37: each result is the truth value of the signed comparison, and equal readings are equal words. -/
theorem comparisonsAreSigned : Obligations.ComparisonsAreSigned := by
  have hrows : ∀ r ∈ comparisonRows, Selects r.format.mask r.matchBits r.build :=
    fun r hr => Row.selects_build (List.mem_append_right _ hr)
  simp only [comparisonRows, List.forall_mem_cons] at hrows
  obtain ⟨heq, hne, hlt, hle, hgt, hge, -⟩ := hrows
  refine ⟨⟨heq, hne, hlt, hle, hgt, hge⟩, fun s c rest hq => ⟨?_, ?_, completes_truth hq rfl rfl rfl,
    completes_truth hq rfl rfl rfl, completes_truth hq rfl rfl rfl, completes_truth hq rfl rfl rfl⟩⟩
  · have h : Completes .ceq s (if s32 c.a = s32 c.b then 1 else 0) := completes_truth hq rfl rfl rfl
    simpa only [s32_inj] using h
  · have h : Completes .cne s (if s32 c.a ≠ s32 c.b then 1 else 0) := completes_truth hq rfl rfl rfl
    simpa only [s32_inj, ne_eq, ite_not] using h

/-- Settles O38: each result is an integer reconstructed, the rounding being the ceiling or the floor by the fraction. -/
theorem floorCeilRoundLaws : Obligations.FloorCeilRoundLaws := by
  intro F s c rest hq hF hF' fr half
  have hF32 : F.toNat ≤ 32 := by omega
  have hfr : s32 c.a % 2 ^ F.toNat = fr := (toNat_mod_two_pow c.a hF32).symm
  have hhalf : (2 : ℤ) ^ (F.toNat - 1) = half := by simp [half]
  have hf := floorWord_eq_wrap32 F.toNat c.a
  have hu := ceilWord_eq hF32 c.a
  have hr := roundWord_eq hF c.a
  refine ⟨_, _, _, completes_floor hq hF hF', completes_ceil hq hF hF', completes_round hq hF hF',
    ⟨?_, ?_, ?_⟩, fun hfr0 => ?_, fun _ (hpos : 0 < s32 c.a) => ?_,
    fun _ (hneg : s32 c.a < 0) => ?_, fun hfit => ?_⟩
  · rw [hf, wrap32_mul_two_pow_toNat_mod _ hF32]
  · rw [hu, wrap32_mul_two_pow_toNat_mod _ hF32]
  · rw [hr, wrap32_mul_two_pow_toNat_mod _ hF32]
  · have hr0 : s32 c.a % 2 ^ F.toNat = 0 := by rw [hfr, hfr0, Nat.cast_zero]
    have hexact : s32 c.a / 2 ^ F.toNat * 2 ^ F.toNat = s32 c.a := Int.ediv_mul_cancel_of_emod_eq_zero hr0
    have hround := halfAway_mul_two_pow hF (s32 c.a / 2 ^ F.toNat)
    rw [hexact] at hround
    rw [hf, hu, hr, hround, ceil_div_two_pow_eq_add, if_pos hr0, add_zero, hexact, wrap32_s32]
    exact ⟨rfl, rfl, rfl⟩
  · rw [hf, hu, hr, halfAway_of_pos hF hpos, hfr, hhalf]
    simp only [Nat.cast_le]
    split <;> rfl
  · rw [hf, hu, hr, halfAway_of_neg hF hneg, hfr, hhalf]
    simp only [Nat.cast_le]
    split <;> rfl
  · have hf' : (floorWord F.toNat c.a).toInt = _ := s32_floorWord (by omega) c.a
    have hu' : (ceilWord F.toNat c.a).toInt = _ := s32_ceilWord hF32 hfit
    rw [hf', hu', ceil_sub_floor_mul_two_pow, hfr]
    refine ⟨Int.ediv_mul_le _ (by positivity), le_ceil_mul_two_pow _ _, ?_⟩
    simp only [Nat.cast_eq_zero]

/-- Settles O39: the product of SIGN and ABS is the word scaled by `ONE`, which MUL.H divides by exactly. -/
theorem signTimesAbsIsTheWord : Obligations.SignTimesAbsIsTheWord := by
  intro F s c rest hq hF hF' ha
  refine ⟨_, _, completes_sign hq hF hF', completes_abs hq, ?_, fun s' c' rest' hq' hg hm => ?_⟩
  · have hsign : ¬ signBit (absolute c.a) = true := by
      rw [signBit_iff, s32_absolute ha]
      exact (abs_nonneg _).not_gt
    exact Bool.eq_false_of_not_eq_true hsign
  · have h := completes_mulH hq' hF hF'
    rwa [hg, hm, mulHigh_eq, s32_signWord_mul_s32_absolute hF' ha, halfUp_mul_two_pow hF, wrap32_s32] at h

end Sys2Proof.Machine

/-!
SUPPORT. The causes (a) to (e) of an illegal word as conditions on its fields (R132), and the statement of `60_exceptions.md`.
-/

namespace Sys2Proof

/-! ### The legal words, field by field (R57 to R59) -/

/-- The values of `op` in the rows of each format (R58). -/
def Format.ops : Format → List Bits5
  | .S => [0x01, 0x02]
  | .C => [0x03]
  | .T => [0x04, 0x05, 0x11, 0x12, 0x13, 0x14]
  | .H => [0x0B, 0x0C]
  | .N => [0x08, 0x09, 0x0A, 0x10, 0x18, 0x19, 0x1A, 0x1B, 0x1C, 0x1D]

/-- The values of `strat` in the rows of each format (R56). -/
def Format.strats : Format → List (BitVec 2)
  | .S => [0b00, 0b01, 0b10]
  | .C | .T | .H | .N => [0b00]

/-- Each `op` of a format has one row for each `strat` of the format, and the opcode map has no other rows. -/
theorem exists_row_iff {f : Format} {op : Bits5} {strat : BitVec 2} :
    (∃ r ∈ opcodeTable, r.format = f ∧ fieldOp r.matchBits = op ∧ fieldStrat r.matchBits = strat) ↔
      op ∈ f.ops ∧ strat ∈ f.strats := by
  revert op strat
  cases f <;> decide

/-- No `op` belongs to two formats. -/
theorem Format.mem_ops_iff {f : Format} {op : Bits5} (h : op ∈ f.ops) (g : Format) : op ∈ g.ops ↔ f = g := by
  revert op
  cases f <;> cases g <;> decide

/-- The values of `op` that select no command (cause (a) of R132) are those of no format. -/
theorem exists_mem_ops_iff {op : Bits5} : (∃ f : Format, op ∈ f.ops) ↔ op ∉ [0x00#5, 0x06#5, 0x07#5, 0x0D#5, 0x0E#5, 0x0F#5,
    0x15#5, 0x16#5, 0x17#5, 0x1E#5, 0x1F#5] := by
  have hcases : (∃ f : Format, op ∈ f.ops) ↔ op ∈ Format.S.ops ∨ op ∈ Format.C.ops ∨ op ∈ Format.T.ops ∨ op ∈ Format.H.ops ∨
      op ∈ Format.N.ops :=
    ⟨fun ⟨f, h⟩ => by cases f <;> simp [h], by rintro (h | h | h | h | h) <;> exact ⟨_, h⟩⟩
  rw [hcases]
  clear hcases
  revert op
  decide

theorem legalWord_iff_fields {w : Word} : legalWord w = true ↔ ∃ f : Format, fieldOp w ∈ f.ops ∧ fieldStrat w ∈ f.strats ∧
    spareBits w = 0#15 ∧ fieldF w ∈ f.useF.legal ∧ fieldB w ∈ f.useB.legal := by
  rw [legalWord_iff]
  constructor
  · rintro ⟨r, hr, F, hF, B, hB, hw⟩
    obtain ⟨hop, hstrat, rfl, rfl, hspare⟩ := eq_packWord_iff.1 hw.symm
    obtain ⟨hop', hstrat'⟩ := exists_row_iff.1 ⟨r, hr, rfl, hop.symm, hstrat.symm⟩
    exact ⟨r.format, hop', hstrat', hspare, hF, hB⟩
  · rintro ⟨f, hop, hstrat, hspare, hF, hB⟩
    obtain ⟨r, hr, rfl, hop', hstrat'⟩ := exists_row_iff.2 ⟨hop, hstrat⟩
    exact ⟨r, hr, _, hF, _, hB, (eq_packWord_iff.2 ⟨hop'.symm, hstrat'.symm, rfl, rfl, hspare⟩).symm⟩

/-- Where `op` selects a format, the word is illegal for another of its fields. -/
theorem not_legalWord_iff_of_mem_ops {w : Word} {f : Format} (h : fieldOp w ∈ f.ops) : ¬ legalWord w = true ↔
    fieldStrat w ∉ f.strats ∨ ¬ spareBits w = 0#15 ∨ fieldF w ∉ f.useF.legal ∨ fieldB w ∉ f.useB.legal := by
  simp only [← not_and_or, legalWord_iff_fields]
  refine not_congr ⟨fun ⟨g, hg, hfields⟩ => ?_, fun hfields => ⟨f, h, hfields⟩⟩
  rwa [(Format.mem_ops_iff h g).1 hg]

theorem spareBits_eq_zero_iff {w : Word} : spareBits w = 0#15 ↔
    w.getLsbD 7 = false ∧ w.extractLsb' 13 3 = 0#3 ∧ w.extractLsb' 21 11 = 0#11 := by
  simp only [← BitVec.toNat_inj, spareBits, toNat_append_eq_add, BitVec.extractLsb'_toNat, Nat.shiftRight_eq_div_pow,
    BitVec.toNat_ofNat, BitVec.getLsbD, Nat.testBit_eq_decide_div_mod_eq, decide_eq_false_iff_not]
  omega

@[simp] theorem FieldUse.mem_legal_unused {x : Bits5} : x ∈ FieldUse.unused.legal ↔ x = 0 := Finset.mem_singleton

@[simp] theorem FieldUse.mem_legal_count {x : Bits5} : x ∈ FieldUse.count.legal ↔ x ≠ 0 ∧ x ≠ 31 := by
  revert x
  decide

@[simp] theorem FieldUse.mem_legal_amount {x : Bits5} : x ∈ FieldUse.amount.legal := Finset.mem_univ x

/-! ### The fields that are illegal in a format (R132 b, d, e) -/

section
variable (f : Format)

/-- Cause (b). -/
theorem Format.not_mem_strats_iff (strat : BitVec 2) :
    strat ∉ f.strats ↔ f = .S ∧ strat = 0b11#2 ∨ ¬ f = .S ∧ strat ≠ 0b00#2 := by
  revert strat
  cases f <;> decide

/-- Causes (d) and (e) in `word[12:8]`. -/
theorem Format.not_mem_legalF_iff (F : Bits5) : F ∉ f.useF.legal ↔
    ¬ (f = .S ∨ f = .C ∨ f = .T) ∧ F ≠ 0#5 ∨ (f = .S ∨ f = .C ∨ f = .T) ∧ (F = 0#5 ∨ F = 31#5) := by
  cases f <;> simp [Format.useF, or_iff_not_imp_left]

/-- Causes (d) and (e) in `word[20:16]`. -/
theorem Format.not_mem_legalB_iff (B : Bits5) : B ∉ f.useB.legal ↔
    ¬ (f = .C ∨ f = .H) ∧ B ≠ 0#5 ∨ f = .C ∧ (B = 0#5 ∨ B = 31#5) := by
  cases f <;> simp [Format.useB, or_iff_not_imp_left]

end

end Sys2Proof

namespace Sys2Proof.Machine

/-! ### Illegal words (R132) -/

/-- `Exec` of a command is the reply that its issue presents where it stands alone (R31). -/
theorem execReply_of_issue {c : Command} {r : Reply} (h : (State.alone c).issue = .next ((State.alone c).respond r)) :
    execReply c = r := by
  rw [execReply, h]
  exact State.replyOnPorts_respond ..

theorem State.alone_due (c : Command) : (State.alone c).due = some c := rfl

theorem State.alone_queue (c : Command) : (State.alone c).queue = [c] := rfl

/-- `Exec` of a word that decodes is the reply of its command. -/
theorem execReply_of_decode_ok {c : Command} {i : Instr} (h : decode c.word = .ok i) : execReply c = replyTo i c.a c.b :=
  execReply_of_issue (by simp [State.issue, State.alone_due, h, exec_eq_answer, State.answer_cons (State.alone_queue c)])

theorem execReply_of_decode_error {c : Command} {e : Reject} (h : decode c.word = .error e) :
    execReply c = .raises .illegalCommand :=
  execReply_of_issue (by simp [State.issue, State.alone_due, h, State.respond])

/-- `Exec` ends in `ILLEGAL` exactly on the words that are not legal, whatever the operands (R60). -/
theorem execReply_eq_illegal_iff {c : Command} : execReply c = .raises .illegalCommand ↔ ¬ legalWord c.word = true := by
  rw [legalWord_iff_decode]
  cases h : decode c.word with
  | error e => simp [execReply_of_decode_error h]
  | ok i =>
    cases hwf : i.wellFormed with
    | false => simp [execReply_of_decode_ok h, replyTo_of_illegal hwf, hwf]
    | true => simp [execReply_of_decode_ok h, replyTo_ne_illegal hwf, hwf]

/-- Settles O4: with no `op` of a format a word has cause (a) and no row, and in each format a legal word is one whose fields have none
of the causes (b) to (e). -/
theorem illegalWordsAnswerIllegal : Obligations.IllegalWordsAnswerIllegal := by
  intro s c hdue op strat F B formatS formatC formatT formatH causeA causeB causeC causeD causeE
  have hcauses : causeA ∨ causeB ∨ causeC ∨ causeD ∨ causeE ↔ ¬ legalWord c.word = true := by
    by_cases hA : causeA
    · refine iff_of_true (.inl hA) fun hlegal => ?_
      obtain ⟨f, hf, -⟩ := legalWord_iff_fields.1 hlegal
      exact exists_mem_ops_iff.1 ⟨f, hf⟩ hA
    · obtain ⟨f, hf⟩ := exists_mem_ops_iff.2 hA
      have hS : formatS ↔ f = .S := Format.mem_ops_iff hf .S
      have hC : formatC ↔ f = .C := List.mem_singleton.symm.trans (Format.mem_ops_iff hf .C)
      have hT : formatT ↔ f = .T := Format.mem_ops_iff hf .T
      have hH : formatH ↔ f = .H := Format.mem_ops_iff hf .H
      have hb : causeB ↔ fieldStrat c.word ∉ f.strats := by
        simp only [causeB, hS]
        exact (f.not_mem_strats_iff strat).symm
      have hc : causeC ↔ ¬ spareBits c.word = 0#15 := by
        rw [spareBits_eq_zero_iff, not_and_or, not_and_or, Bool.not_eq_false]
      have hde : causeD ∨ causeE ↔ fieldF c.word ∉ f.useF.legal ∨ fieldB c.word ∉ f.useB.legal := by
        simp only [causeD, causeE, hS, hC, hT, hH]
        rw [or_or_or_comm]
        exact or_congr (f.not_mem_legalF_iff F).symm (f.not_mem_legalB_iff B).symm
      rw [or_iff_right hA, hb, hc, hde, not_legalWord_iff_of_mem_ops hf]
  rw [hcauses, not_not, State.issue_of_due_reply hdue]
  refine ⟨fun h => ⟨Config.faultResult s.draws, s.draws + 1, ?_⟩, fun h => ⟨_, rfl, ?_⟩⟩
  · rw [execReply_eq_illegal_iff.2 h]
    rfl
  · rw [ne_eq, State.respond_rspStatus_eq_illegal_iff, execReply_eq_illegal_iff, not_not]
    exact h

end Sys2Proof.Machine

/-!
SUPPORT. The two statements of `70_reset_and_hazards.md`: a step with `rst = 1` empties the block (R150), and no step stops (R156).
-/

namespace Sys2Proof.Machine

/-- Settles O53: the step is the total function `State.next`, since a command that is due is always answered. -/
theorem noCommandHangsTheBlock : Obligations.NoCommandHangsTheBlock := fun s => ⟨s.next, step_eq_next s⟩

/-! ### Reset -/

section
variable {s : State}

theorem State.acceptedNow_of_reset (hr : s.pins.rst = true) : s.acceptedNow = [] := by
  simp [State.acceptedNow, State.accepts, hr]

theorem State.deliveredNow_of_reset (hr : s.pins.rst = true) : s.deliveredNow = [] := by
  simp [State.deliveredNow, State.delivers, hr]

/-- The reset edge leaves no command to answer, so a step with reset is that edge. -/
theorem State.next_of_reset (hr : s.pins.rst = true) : s.next = s.resetEdge := by
  have hnone : s.resetEdge.due = none := State.due_eq_none.2 (.inr (.inr s.resetEdge_queue))
  rw [State.next, State.edge_reset hr, State.presentDue_of_none hnone]

end

/-- Settles O48: with reset neither handshake happens, and the step is the reset edge. -/
theorem resetEmptiesTheBlock : Obligations.ResetEmptiesTheBlock := by
  rintro s ⟨p, ps, hp, hr⟩
  obtain rfl := State.pins_cons hp
  exact ⟨State.acceptedNow_of_reset hr, State.deliveredNow_of_reset hr, s.resetEdge,
    step_next_iff.2 (State.next_of_reset hr), s.resetEdge_queue, s.resetEdge_rspValid, s.resetEdge_cmdReady⟩

end Sys2Proof.Machine
